-- ==== Sys2Proof/Word.lean ====
section
/-! DEFINITION. The one word type of the part's links: a byte. Everything the manual counts, compares or
indexes (counters, labels, buffer numbers) is a natural number; a byte is a bit vector because the links
carry it, and the check code folds its bits (R186). -/

namespace Sys2Proof

/-- One byte on a link. -/
abbrev Byte := BitVec 8

end Sys2Proof
end

