-- ==== Sys2Proof/Config.lean ====
section
/-! DEFINITION. The free values: what the manual leaves open and the machine nevertheless goes on from.
Each is an opaque constant with no body, applied to a counter that State holds, so nothing can be proved of
its value. A claim about the model therefore holds for every value. -/

namespace Sys2Proof

/-- Whether, and where, a stored bit of the Payload Store turns over during the next idle step: a buffer number
and a bit position (positions at or beyond eight times the body's length lie in the buffer's check code).
R129 says what the store does about wrong bits and gives no law for when they come. DESIGN CHOICE, safe (log 4). -/
opaque Config.storeUpset : Nat → Option (Nat × Nat)

/-- How many entries a running realignment takes at one of its events, beyond which it goes on later.
R75 gives the order of the taking and no pace. DESIGN CHOICE, safe (log 7). -/
opaque Config.realignPace : Nat → Nat

/-- Whether the deadline expiries that a forward step reaches are delivered before its strobes (they are
delivered after them otherwise). R70 allows either order. DESIGN CHOICE, safe (log 8). -/
opaque Config.expiriesFirst : Nat → Bool

/-- Whether a filing is still on its way to the Stream Table when its sort ends, so that requests run before it gets
there (it gets there at the sort otherwise). R85 allows either. DESIGN CHOICE, safe (log 45). -/
opaque Config.filingLags : Nat → Bool

end Sys2Proof
end

