-- ==== Sys2Proof/Syntax.lean ====
section
/-! DEFINITION. The commands of the part: one constructor for each row of spec/opcode_table.json.
A command is an event on a pin, a byte arriving on a line, the end of something being sent, an expiry, or the
Request Executor running the request it has started. A request row has no operand: its tag and its parameter
bytes are those of the EXECUTING entry of the request queue (R158, R159). -/

namespace Sys2Proof

/-- The two Reference Ports (R5). -/
inductive RefPort where
  | A
  | B
  deriving DecidableEq, Repr

/-- A lane number, 0 to 3. -/
abbrev LaneId := Fin 4

/-- A label: a grid second and a tick (00_scope, Time and labels). -/
structure Label where
  second : Nat
  tick   : Nat
  deriving DecidableEq, Repr

/-- The strap levels as sampled: NOMINAL high means 60 Hz; NODE3 and CTL_RATE1 are the most significant. -/
structure Straps where
  nominal60 : Bool
  node      : BitVec 4
  ctlRate   : BitVec 2
  deriving DecidableEq, Repr

/-- The nominal frequency a strap setting selects (00_scope, Signal summary). -/
def Straps.nominal (s : Straps) : Nat := if s.nominal60 then 60 else 50

/-- The commands, in the order of the table.
Rows that are the arrival of a byte carry the byte: whether a byte completes a header, a frame, a request or
nothing is decided by the bytes before it (R187), so the rows of one line share one effect and differ in the
state they are met in (log 3). -/
inductive Instr where
  | powerOn (straps : Straps)
  | resetNAssert
  | pin (straps : Straps)
  | isolateAsserted
  | isolateRemoved
  | carrierChange (lane : LaneId) (high : Bool)
  | pulse (port : RefPort)
  | timeMessage (port : RefPort) (b : Byte)
  | timeMessageError (port : RefPort) (b : Byte)
  | tmsgGapExpiry (port : RefPort)
  | missingPulseExpiry (port : RefPort)
  | silenceExpiry (port : RefPort)
  | holdoverSecond
  | slewEnd
  | strobe
  | deadlineExpiry (label : Label)
  | sort
  | laneHeader (lane : LaneId) (b : Byte)
  | laneFrameEnd (lane : LaneId) (b : Byte)
  | laneGapExpiry (lane : LaneId)
  | flowFrameEnd (lane : LaneId)
  | sweepVerdict (pass : Bool)
  | recordEnd
  | pause (b : Byte)
  | resume (b : Byte)
  | returnEnvelopeError (b : Byte)
  | returnGapExpiry
  | pauseLimitExpiry
  | requestArrival (b : Byte)
  | controlEnvelopeError (b : Byte)
  | controlGapExpiry
  | messageEnd
  | unknownRequest
  | identify
  | restartFull
  | restartAlignment
  | readTime
  | configureReference
  | selectReference
  | registerStream
  | alterStream
  | suspendStream
  | resumeStream
  | retireStream
  | readStream
  | readChanges
  | readStrangers
  | configureAlignment
  | realignmentComplete
  | flushWindow
  | readWindow
  | readSorter
  | configureLane
  | readLane
  | readPool
  | setPoolMark
  | configureEgress
  | holdEgress
  | resumeEgress
  | readEgress
  | readAttention
  | setAttentionMask
  | setLoopback
  | injectFrame
  | sweepStore
  | laneByte (lane : LaneId) (b : Byte)
  | controlLinkByte (b : Byte)
  | tmsgByte (port : RefPort) (b : Byte)
  | returnLinkByte (b : Byte)
  deriving DecidableEq, Repr

end Sys2Proof
end

