-- ==== Sys2Proof/Decode.lean ====
section
/-! DEFINITION. The command a table word spells. No row of spec/opcode_table.json gives bits, so no word
spells a command; the byte formats of the links are decoded in Machine/Bytes.lean, Machine/Receiver.lean and
Machine/Operands.lean. -/

namespace Sys2Proof

/-- No row of the table has bits, so there is nothing to decode. -/
def decodeTableWord (_nbits _w : Nat) : Option Instr := none

end Sys2Proof
end

