-- ==== Sys2Proof/Machine/State.lean ====
section
/-! DEFINITION. The state of the part, block by block, each field under the rule that names it, and the state after
POWER_ON. Everything is plain data. A value the manual lets be read in two ways is stored once (a receiver's state
from its phase, a transmitter's state from the record in flight, the retired set from the buffer states). -/

namespace Sys2Proof.Machine

/-- No command stops the part: the manual names no event that does. The one reason stands here so that the type
has a reader; nothing raises it, so it is safe. -/
inductive Fault where
  /-- Raised by no command: the manual names nothing that stops the part. Safe. -/
  | stopped
  deriving DecidableEq, Repr

/-- Why a command has no meaning. -/
inductive Refusal where
  /-- Raised by an arm of exec that has no meaning yet; no arm is left so. Safe. -/
  | notModelled (mnemonic : String)
  deriving DecidableEq, Repr

/-- Four like things, by number: lanes, wait classes. -/
structure Four (α : Type) where
  a0 : α
  a1 : α
  a2 : α
  a3 : α
  deriving DecidableEq, Repr

/-! ### Receivers (R187) -/

/-- Where a receiver stands: hunting for a lead byte, reading a header, stepping over an envelope, or taking the body
and check of an accepted envelope of the given body length. -/
inductive RxPhase where
  | seek
  | header
  | skip (left : Nat)
  | body (length : Nat)
  deriving DecidableEq, Repr

/-- A receiver: its phase, the retained bytes of the envelope being read, and the gap timer (R110): the moment of the
last byte on the line and the limit, in ns, the running timer started with. -/
structure Rx where
  phase      : RxPhase
  retained   : List Byte
  lastByteAt : Nat
  gapNs      : Nat
  deriving DecidableEq, Repr

/-- A receiver hunting with nothing retained. -/
def Rx.idle : Rx := ⟨.seek, [], 0, 0⟩

/-! ### Reference Ports (R5) and Time Base (R11, R23) -/

inductive PortState where
  | silent
  | acquiring
  | qualified
  deriving DecidableEq, Repr

inductive BadReason where
  | interval
  | noMessage
  | sequence
  | unlocked
  | missing
  deriving DecidableEq, Repr

/-- The latest source report. -/
structure SourceReport where
  locked  : Bool
  quality : Nat
  deriving DecidableEq, Repr

/-- The held message. -/
structure HeldMessage where
  second  : Nat
  locked  : Bool
  quality : Nat
  deriving DecidableEq, Repr

/-- The pulse record: the announced second and the local oscillator time of the most recent good pulse. -/
structure PulseRecord where
  second : Nat
  moment : Nat
  deriving DecidableEq, Repr

/-- One Reference Port (R5). `missingTaken` says that the missing-pulse expiry of R8 has occurred for the previous
pulse; each occurs at most once per previous pulse. -/
structure Port where
  state         : PortState
  goodCount     : Nat
  prevPulse     : Option Nat
  missingTaken  : Bool
  lastAnnounced : Option Nat
  held          : Option HeldMessage
  report        : Option SourceReport
  pulseRecord   : Option PulseRecord
  lastBad       : Option BadReason
  goodSeconds   : Nat
  badSeconds    : Nat
  missingPulses : Nat
  messageErrors : Nat
  rx            : Rx
  deriving DecidableEq, Repr

inductive TimeState where
  | unset
  | tracking
  | holdover
  | expired
  deriving DecidableEq, Repr

/-- Part time (R10): a grid second and a nanosecond count. `frac`, in 1/20,000 ns, is what a slew in progress leaves
below the nanosecond count (R17, log 13). -/
structure PartTime where
  second : Nat
  nanos  : Nat
  frac   : Nat
  deriving DecidableEq, Repr

/-- The four time deltas (R21). -/
structure TimeDeltas where
  a       : Bool
  b       : Bool
  state   : Bool
  stepped : Bool
  deriving DecidableEq, Repr

/-- The reference parameters (R23): tolerance and threshold in µs, holdover limit in s. -/
structure RefConfig where
  qualifyCount   : Nat
  pulseTolerance : Nat
  holdoverLimit  : Nat
  stepThreshold  : Nat
  preferred      : RefPort
  failover       : Bool
  deriving DecidableEq, Repr

/-- The Time Base (R11). `slew` is slew remaining in 1/20,000 ns, `slewing` that a slew has not been ended (R17),
`holdoverEntry` the moment of the last entry to HOLDOVER (R14). -/
structure TimeBase where
  state           : TimeState
  partTime        : Option PartTime
  selected        : Option RefPort
  offset          : Option Int
  slew            : Int
  slewing         : Bool
  holdoverSeconds : Nat
  holdoverEntry   : Nat
  deltas          : TimeDeltas
  cfg             : RefConfig
  deriving DecidableEq, Repr

/-! ### Stream Table (R27, R46) -/

/-- The states of a registered stream; VACANT is a slot with no stream. -/
inductive StreamState where
  | armed
  | live
  | stale
  | suspended
  | retiring
  deriving DecidableEq, Repr

/-- A layout: phasor, analog and digital counts. -/
structure Layout where
  p : Nat
  a : Nat
  d : Nat
  deriving DecidableEq, Repr

/-- The condition summary: worst quality class, and the flags INVALID (bit 0) to TRIGGER (bit 4). -/
structure Summary where
  quality : Option Nat
  flags   : BitVec 5
  deriving DecidableEq, Repr

structure StreamCounters where
  filed          : Nat
  tardy          : Nat
  late           : Nat
  duplicate      : Nat
  decimated      : Nat
  layoutMismatch : Nat
  misses         : Nat
  deriving DecidableEq, Repr

/-- A registered stream (R27). -/
structure Stream where
  state     : StreamState
  number    : Nat
  rate      : Nat
  layout    : Layout
  waitClass : Fin 4
  missCount : Nat
  refCount  : Nat
  lastFiled : Option Label
  summary   : Summary
  counters  : StreamCounters
  deriving DecidableEq, Repr

/-- One of the 512 entries: VACANT when it holds no stream. The change mark outlives the stream (R30). -/
structure Slot where
  stream : Option Stream
  mark   : Bool
  deriving DecidableEq, Repr

/-- A VACANT entry with its change mark clear. -/
def Slot.vacant : Slot := ⟨none, false⟩

/-- A filing on its way to the Stream Table (R85): the index and number the lookup found, the frame's own label, its
quality class and condition flags, and whether the entry it was filed into was DUE. -/
structure Filing where
  index   : Nat
  number  : Nat
  label   : Label
  quality : Nat
  flags   : BitVec 5
  tardy   : Bool
  deriving DecidableEq, Repr

/-- A stranger list entry (R46). -/
structure Stranger where
  number : Nat
  lane   : LaneId
  label  : Label
  seen   : Nat
  deriving DecidableEq, Repr

/-- The Stream Table: the slots that are not `Slot.vacant`, by index, in rising order; the stranger list. -/
structure StreamTable where
  slots     : List (Nat × Slot)
  strangers : List Stranger
  unlisted  : Nat
  deriving DecidableEq, Repr

/-! ### Epoch Table (R51 to R54, R72) -/

inductive EngineMode where
  | idle
  | run
  | reinit
  | frozen
  deriving DecidableEq, Repr

inductive VoidPolicy where
  | emit
  | suppress
  deriving DecidableEq, Repr

/-- The alignment configuration (R72): waits and tolerance in ms. -/
structure AlignConfig where
  fo             : Nat
  waits          : Four Nat
  tolerance      : Nat
  staleThreshold : Nat
  voidPolicy     : VoidPolicy
  forwarding     : Bool
  deriving DecidableEq, Repr

/-- The instant of a label at a rate: second + tick / rate. -/
structure Instant where
  second : Nat
  tick   : Nat
  rate   : Nat
  deriving DecidableEq, Repr

/-- An item of an expected list (R53). -/
structure Expected where
  index     : Nat
  number    : Nat
  waitClass : Fin 4
  withdrawn : Bool
  deriving DecidableEq, Repr

/-- A member record (R54). -/
structure Member where
  index     : Nat
  number    : Nat
  buffer    : Nat
  lane      : LaneId
  waitClass : Fin 4
  tardy     : Bool
  extra     : Bool
  deriving DecidableEq, Repr

inductive EpochState where
  | opened
  | due
  deriving DecidableEq, Repr

inductive OpenedBy where
  | strobe
  | frame
  deriving DecidableEq, Repr

/-- An epoch entry (R53). The deadline is the wait, in ms, after the label's instant. -/
structure Epoch where
  label    : Label
  state    : EpochState
  openedBy : OpenedBy
  expected : List Expected
  members  : List Member
  counts   : Four Nat
  deadline : Option Nat
  deriving DecidableEq, Repr

structure WindowCounters where
  opened         : Nat
  released       : Nat
  dropped        : Nat
  skipped        : Nat
  suppressedVoid : Nat
  flushed        : Nat
  reinitReleased : Nat
  reinitDropped  : Nat
  evictedEarly   : Nat
  deriving DecidableEq, Repr

/-- How many entries an emptying released, dropped and suppressed (R76, R77). -/
structure Tally where
  released   : Nat
  dropped    : Nat
  suppressed : Nat
  deriving DecidableEq, Repr

/-- A realignment in progress (R74 to R76): the parameters it will put in force, what has left so far, and the label
of the newest entry that left. -/
structure Realign where
  cfg    : AlignConfig
  tally  : Tally
  newest : Option Label
  deriving DecidableEq, Repr

/-- The last label of all (R19): still to be strobed, its strobe taken, or not to be strobed since part time had
reached it when the strobe label was set (log 15). -/
inductive LastLabel where
  | ahead
  | taken
  | withheld
  deriving DecidableEq, Repr

/-- The Epoch Table (R52, R53); the entries are in rising label order, oldest first. Two fields are the model's own, so that
no label that has left is opened again (R144): `sealed` keeps the instant of the label that left last where R76 makes horizon
and mark absent (log 41), and `dropped` the instants of the labels dropped ahead of an earlier one that are later than the
label that left last (R59, log 37). -/
structure Engine where
  mode      : EngineMode
  strobe    : Option Label
  lastLabel : LastLabel
  horizon   : Option Label
  mark      : Option Instant
  sealed    : Option Instant
  dropped   : List Instant
  counters  : WindowCounters
  cfg       : AlignConfig
  entries   : List Epoch
  realign   : Option Realign
  deriving DecidableEq, Repr

/-! ### Frame Sorter (R82) -/

structure DiscardCounters where
  noTime         : Nat
  reinit         : Nat
  malformed      : Nat
  stranger       : Nat
  suspended      : Nat
  retired        : Nat
  layoutMismatch : Nat
  offGrid        : Nat
  decimated      : Nat
  late           : Nat
  ahead          : Nat
  duplicate      : Nat
  windowFull     : Nat
  noEpoch        : Nat
  deriving DecidableEq, Repr

structure Sorter where
  pointer     : LaneId
  sorted      : Nat
  filed       : Nat
  filedTardy  : Nat
  openedEarly : Nat
  forwarded   : Nat
  discards    : DiscardCounters
  deriving DecidableEq, Repr

/-! ### Feed Lanes (R104) -/

/-- A lane queue entry (R112). -/
structure LaneEntry where
  buffer : Nat
  length : Nat
  deriving DecidableEq, Repr

inductive FlowState where
  | flowing
  | held
  deriving DecidableEq, Repr

inductive FlowKind where
  | hold
  | go
  deriving DecidableEq, Repr

structure LaneDeltas where
  carrier : Bool
  overrun : Bool
  hold    : Bool
  deriving DecidableEq, Repr

structure LaneCounters where
  frames         : Nat
  unexpectedKind : Nat
  headerError    : Nat
  checkError     : Nat
  frameTimeout   : Nat
  poolEmpty      : Nat
  overrun        : Nat
  abandoned      : Nat
  holdSent       : Nat
  goSent         : Nat
  deriving DecidableEq, Repr

/-- A Feed Lane (R104). The frame in progress is the receiver in phase `body` with `claimed`, the buffer it claimed
(R107); `flowTx` is the flow frame being sent (R114). -/
structure Lane where
  enabled  : Bool
  rx       : Rx
  claimed  : Option Nat
  queue    : List LaneEntry
  peak     : Nat
  flow     : FlowState
  lastFlow : Option FlowKind
  flowTx   : Option FlowKind
  highMark : Nat
  lowMark  : Nat
  gapMs    : Nat
  loopback : Bool
  deltas   : LaneDeltas
  counters : LaneCounters
  deriving DecidableEq, Repr

/-! ### Payload Store (R122, R182) -/

/-- The eight states of a buffer (R123). -/
inductive BufState where
  | free
  | filling
  | queued
  | filed
  | released
  | straggling
  | sweeping
  | retired
  deriving DecidableEq, Repr

/-- A buffer: its state, the body as written, and the positions of the stored bits that have turned over since, in
rising order; positions from eight times the body's length on lie in the check code (R129, log 4). -/
structure Buffer where
  state     : BufState
  body      : List Byte
  wrongBits : List Nat
  deriving DecidableEq, Repr

/-- What a buffer not listed is: FREE with nothing written (log 24). -/
def Buffer.blank : Buffer := ⟨.free, [], []⟩

/-- The store sweep (R182, R183): the buffer being tested and the four results. -/
structure Sweep where
  running : Bool
  next    : Nat
  testing : Option Nat
  tested  : Nat
  passed  : Nat
  retired : Nat
  skipped : Nat
  deriving DecidableEq, Repr

/-- The Payload Store (R122): the buffers that are not `Buffer.blank`, by number, in rising order; the free list in
lending order; `below` is the low-mark state BELOW. -/
structure Store where
  buffers      : List (Nat × Buffer)
  freeList     : List Nat
  lowMark      : Nat
  below        : Bool
  lowestFree   : Nat
  corrections  : Nat
  damagedReads : Nat
  claimsFailed : Nat
  sweep        : Sweep
  deriving DecidableEq, Repr

/-! ### Release Queue, Straggler Queue, Set Link (R136 to R138) -/

inductive SendState where
  | waiting
  | sending
  | resend
  deriving DecidableEq, Repr

/-- The principal flag of a set: COMPLETE, PARTIAL or VOID (R66). -/
inductive Principal where
  | complete
  | incomplete
  | void
  deriving DecidableEq, Repr

structure SetFlags where
  principal    : Principal
  holdover     : Bool
  expired      : Bool
  tardyPresent : Bool
  flushed      : Bool
  reinit       : Bool
  deriving DecidableEq, Repr

/-- A set record (R66, R136); `fo` is the output rate its label counts at. -/
structure SetRecord where
  label   : Label
  fo      : Nat
  members : List Member
  missing : List Nat
  flags   : SetFlags
  send    : SendState
  deriving DecidableEq, Repr

/-- A straggler record (R94, R137). -/
structure StragglerRecord where
  index  : Nat
  number : Nat
  label  : Label
  lane   : LaneId
  age    : Nat
  buffer : Nat
  send   : SendState
  deriving DecidableEq, Repr

inductive RecordKind where
  | set
  | strag
  deriving DecidableEq, Repr

/-- The record in flight: the head of the queue of its kind, and the envelope being sent (R141, R142). -/
structure RecordInFlight where
  kind     : RecordKind
  envelope : List Byte
  deriving DecidableEq, Repr

structure EgressCounters where
  setsSent          : Nat
  stragglersSent    : Nat
  stragglerOverflow : Nat
  pauseOverrides    : Nat
  resent            : Nat
  returnErrors      : Nat
  deriving DecidableEq, Repr

/-- The egress: both queues, the transmitter (R138) and the return receiver (R145). `pausedAt` is the consumer pause:
present with the moment it began. -/
structure Egress where
  releaseQueue : List SetRecord
  stragglers   : List StragglerRecord
  inFlight     : Option RecordInFlight
  pausedAt     : Option Nat
  hostHold     : Bool
  arbiter      : Nat
  pauseLimit   : Nat
  counters     : EgressCounters
  rx           : Rx
  deriving DecidableEq, Repr

/-! ### Control Link (R155) -/

/-- A reply that has been formed (R162): its place in the order of forming, and its body. -/
structure Reply where
  stamp : Nat
  body  : List Byte
  deriving DecidableEq, Repr

inductive EntryState where
  | waiting
  | executing
  | replying (reply : Reply)
  deriving DecidableEq, Repr

/-- A request queue entry (R157, R158). -/
structure RequestEntry where
  tag    : Byte
  code   : Byte
  params : List Byte
  state  : EntryState
  deriving DecidableEq, Repr

/-- What is in flight on CTL_TX: the reply of the first REPLYING entry, the refusal slot's reply, a notice, or a
message whose queue entry a PIN event took away (R155). -/
inductive MessageSource where
  | entry
  | refusal
  | notice
  | detached
  deriving DecidableEq, Repr

/-- The message in flight: its envelope and the CTL_RATE it began at (R155). -/
structure MessageInFlight where
  source   : MessageSource
  envelope : List Byte
  rate     : BitVec 2
  deriving DecidableEq, Repr

/-- The Control Link (R155). `stamp` numbers the replies in the order they are formed (R163). -/
structure Control where
  rx             : Rx
  queue          : List RequestEntry
  refusal        : Option Reply
  notice         : Option (List Byte)
  inFlight       : Option MessageInFlight
  envelopeErrors : Nat
  unanswered     : Nat
  stamp          : Nat
  deriving DecidableEq, Repr

/-! ### Attention Unit (R169) -/

/-- The six causes, in the priority order of R170. -/
inductive Cause where
  | time
  | pool
  | lane
  | stream
  | stranger
  | egress
  deriving DecidableEq, Repr

/-- A subset of the six causes. -/
structure CauseSet where
  time     : Bool
  pool     : Bool
  lane     : Bool
  stream   : Bool
  stranger : Bool
  egress   : Bool
  deriving DecidableEq, Repr

/-- The Attention Unit (R169). -/
structure Attention where
  pending  : CauseSet
  mask     : CauseSet
  gateOpen : Bool
  attn     : Bool
  deriving DecidableEq, Repr

/-! ### The part -/

/-- The four reset events (00_scope). -/
inductive ResetEvent where
  | powerOn
  | pin
  | restartFull
  | restartAlignment
  deriving DecidableEq, Repr

/-- The levels of the pins the part reads as levels: RESET_N low, ISOLATE high, CARRIER0 to CARRIER3 high. -/
structure Pins where
  resetLow : Bool
  isolate  : Bool
  carrier  : Four Bool
  deriving DecidableEq, Repr

/-- Everything the part holds. `clock` is local oscillator time in ns; `idleSpan` and `freeUses` are the model's own
(log 1, 29). `filing` is the filing that a sort has made and the Stream Table has not yet taken (R85, log 45). -/
structure Part where
  clock     : Nat
  idleSpan  : Nat
  freeUses  : Nat
  pins      : Pins
  straps    : Straps
  lastReset : ResetEvent
  portA     : Port
  portB     : Port
  timeBase  : TimeBase
  streams   : StreamTable
  filing    : Option Filing
  engine    : Engine
  sorter    : Sorter
  lanes     : Four Lane
  store     : Store
  egress    : Egress
  control   : Control
  attention : Attention
  deriving DecidableEq, Repr

/-- The machine: the commands that wait, first in first out, and the part. -/
structure State where
  pending : List Instr
  part    : Part
  deriving DecidableEq, Repr

/-! ### Values after POWER_ON -/

def Port.initial : Port where
  state := .silent
  goodCount := 0
  prevPulse := none
  missingTaken := false
  lastAnnounced := none
  held := none
  report := none
  pulseRecord := none
  lastBad := none
  goodSeconds := 0
  badSeconds := 0
  missingPulses := 0
  messageErrors := 0
  rx := Rx.idle

/-- The defaults of R23. -/
def RefConfig.initial : RefConfig := ⟨4, 25, 600, 1000, .A, true⟩

def TimeBase.initial : TimeBase where
  state := .unset
  partTime := none
  selected := none
  offset := none
  slew := 0
  slewing := false
  holdoverSeconds := 0
  holdoverEntry := 0
  deltas := ⟨false, false, false, false⟩
  cfg := RefConfig.initial

def StreamTable.initial : StreamTable := ⟨[], [], 0⟩

def WindowCounters.zero : WindowCounters := ⟨0, 0, 0, 0, 0, 0, 0, 0, 0⟩

/-- The defaults of R72. -/
def AlignConfig.initial (nominal : Nat) : AlignConfig := ⟨nominal, ⟨80, 250, 800, 2000⟩, 100, 8, .emit, false⟩

def Engine.initial (nominal : Nat) : Engine where
  mode := .idle
  strobe := none
  lastLabel := .ahead
  horizon := none
  mark := none
  sealed := none
  dropped := []
  counters := WindowCounters.zero
  cfg := AlignConfig.initial nominal
  entries := []
  realign := none

def DiscardCounters.zero : DiscardCounters := ⟨0, 0, 0, 0, 0, 0, 0, 0, 0, 0, 0, 0, 0, 0⟩

def Sorter.initial : Sorter := ⟨3, 0, 0, 0, 0, 0, DiscardCounters.zero⟩

def LaneCounters.zero : LaneCounters := ⟨0, 0, 0, 0, 0, 0, 0, 0, 0, 0⟩

/-- A lane as R104 gives it after POWER_ON. -/
def Lane.initial : Lane where
  enabled := true
  rx := Rx.idle
  claimed := none
  queue := []
  peak := 0
  flow := .flowing
  lastFlow := none
  flowTx := none
  highMark := 48
  lowMark := 16
  gapMs := 2
  loopback := false
  deltas := ⟨false, false, false⟩
  counters := LaneCounters.zero

/-- That lane once the GO that R114 and R120 make due has started. -/
def Lane.started : Lane :=
  { Lane.initial with lastFlow := some .go, flowTx := some .go, counters := { LaneCounters.zero with goSent := 1 } }

/-- `n` numbers rising from `i`. -/
def countUp : Nat → Nat → List Nat
  | _, 0 => []
  | i, n + 1 => i :: countUp (i + 1) n

def Sweep.initial : Sweep := ⟨false, 0, none, 0, 0, 0, 0⟩

def Store.initial : Store where
  buffers := []
  freeList := countUp 0 16384
  lowMark := 1024
  below := false
  lowestFree := 16384
  corrections := 0
  damagedReads := 0
  claimsFailed := 0
  sweep := Sweep.initial

def EgressCounters.zero : EgressCounters := ⟨0, 0, 0, 0, 0, 0⟩

def Egress.initial : Egress where
  releaseQueue := []
  stragglers := []
  inFlight := none
  pausedAt := none
  hostHold := false
  arbiter := 0
  pauseLimit := 1000
  counters := EgressCounters.zero
  rx := Rx.idle

def Control.initial : Control where
  rx := Rx.idle
  queue := []
  refusal := none
  notice := none
  inFlight := none
  envelopeErrors := 0
  unanswered := 0
  stamp := 0

def CauseSet.empty : CauseSet := ⟨false, false, false, false, false, false⟩
def CauseSet.all : CauseSet := ⟨true, true, true, true, true, true⟩

def Attention.initial : Attention := ⟨CauseSet.empty, CauseSet.all, true, false⟩

/-- All straps low: 50 Hz, node 0, the lowest Control Link rate (DESIGN CHOICE, unsafe, log 11). -/
def Straps.low : Straps := ⟨false, 0, 0⟩

/-- The part right after POWER_ON with every strap and pin of log 11: every block at its POWER_ON values, and on each
lane the GO of R120 started (DEDUCED, log 12). -/
def Part.reset : Part where
  clock := 0
  idleSpan := 1
  freeUses := 0
  pins := ⟨false, false, ⟨false, false, false, false⟩⟩
  straps := Straps.low
  lastReset := .powerOn
  portA := Port.initial
  portB := Port.initial
  timeBase := TimeBase.initial
  streams := StreamTable.initial
  filing := none
  engine := Engine.initial 50
  sorter := Sorter.initial
  lanes := ⟨Lane.started, Lane.started, Lane.started, Lane.started⟩
  store := Store.initial
  egress := Egress.initial
  control := Control.initial
  attention := Attention.initial

/-- The machine right after reset: no command waits. -/
def State.reset : State := ⟨[], Part.reset⟩

end Sys2Proof.Machine
end

