-- ==== Sys2Proof/Machine/Bytes.lean ====
section
/-! DEFINITION. Bytes on the links: numbers most significant byte first, the check code of R186, the envelope, and the
fields of the inbound bodies (R188). -/

namespace Sys2Proof.Machine

/-- The number a run of bytes spells, most significant byte first. -/
def beNat (bs : List Byte) : Nat := bs.foldl (fun a b => a * 256 + b.toNat) 0

/-- `n` in `w` bytes, most significant byte first. -/
def be : Nat → Nat → List Byte
  | 0, _ => []
  | w + 1, n => BitVec.ofNat 8 (n / 256 ^ w) :: be w n

/-- A signed number in `w` bytes, two's complement. -/
def beInt (w : Nat) (i : Int) : List Byte := be w (i % (256 ^ w : Nat)).toNat

/-- The field of `w` bytes at offset `at`, as a number. -/
def field (bs : List Byte) (off w : Nat) : Nat := beNat ((bs.drop off).take w)

/-- The byte at an offset; 0 beyond the end. -/
def byteAt (bs : List Byte) (off : Nat) : Byte := bs.getD off 0

/-- One bit through the check register (R186). -/
def crcBit (r : BitVec 16) (bit : Bool) : BitVec 16 :=
  if r.getLsbD 15 = bit then r <<< 1 else (r <<< 1) ^^^ 0x1021#16

/-- One byte through the check register, most significant bit first. -/
def crcByte (r : BitVec 16) (b : Byte) : BitVec 16 :=
  [7, 6, 5, 4, 3, 2, 1, 0].foldl (fun r i => crcBit r (b.getLsbD i)) r

/-- The check code over kind, length and body (R186). -/
def crc (bs : List Byte) : BitVec 16 := bs.foldl crcByte 0xFFFF#16

/-- The check code as sent, high byte first. -/
def crcBytes (bs : List Byte) : List Byte := be 2 (crc bs).toNat

def leadByte : Byte := 0xA7#8

/-! The kinds of R187. -/

def kindMeas : Byte := 0x4D#8
def kindHold : Byte := 0x68#8
def kindGo : Byte := 0x67#8
def kindSet : Byte := 0x53#8
def kindStrag : Byte := 0x73#8
def kindPause : Byte := 0x70#8
def kindResume : Byte := 0x72#8
def kindTime : Byte := 0x54#8
def kindReq : Byte := 0x51#8
def kindReply : Byte := 0x41#8
def kindNotice : Byte := 0x4E#8

/-- What the check code covers. -/
def covered (kind : Byte) (body : List Byte) : List Byte := kind :: be 3 body.length ++ body

/-- The common envelope. -/
def envelope (kind : Byte) (body : List Byte) : List Byte :=
  leadByte :: covered kind body ++ crcBytes (covered kind body)

/-- The envelope of a flow frame: its own kind and an empty body (R114). -/
def flowEnvelope : FlowKind → List Byte
  | .hold => envelope kindHold []
  | .go => envelope kindGo []

/-! ### The measurement body (R188) -/

def frameNumber (b : List Byte) : Nat := field b 0 4
def frameLabel (b : List Byte) : Label := ⟨field b 4 4, field b 8 2⟩

/-- The quality class: the low four bits of its byte. -/
def frameQuality (b : List Byte) : Nat := (byteAt b 10).toNat % 16

/-- The condition flags: bits 0 to 4 of the condition field. -/
def frameFlags (b : List Byte) : BitVec 5 := (byteAt b 12).setWidth 5

def frameLayout (b : List Byte) : Layout := ⟨(byteAt b 13).toNat, (byteAt b 14).toNat, (byteAt b 15).toNat⟩

/-- The body length a layout calls for. -/
def Layout.soundLength (l : Layout) : Nat := 24 + 8 * l.p + 4 * l.a + 2 * l.d

/-- The ranges of a layout. -/
def Layout.inRange (l : Layout) : Bool := decide (l.p ≤ 24) && decide (l.a ≤ 16) && decide (l.d ≤ 4)

/-- Frequency deviation and rate of change, as sent on. -/
def frameRates (b : List Byte) : List Byte := (b.drop 16).take 8

/-- The values, as sent on. -/
def frameValues (b : List Byte) : List Byte := b.drop 24

/-! ### The TIME body (R188) -/

/-- The held message a six-byte TIME body gives: second, locked (bit 0 of the status), quality (low four bits). -/
def timeBody (b : List Byte) : HeldMessage :=
  ⟨field b 0 4, (byteAt b 4).getLsbD 0, (byteAt b 5).toNat % 16⟩

end Sys2Proof.Machine
end

