-- ==== Sys2Proof/Machine/Ops.lean ====
section
/-! DEFINITION. Shared operations: counters, lists kept by number, the accessors of the part's blocks, labels and
instants (R10), and how a command that runs becomes the next state. -/

namespace Sys2Proof

/-- Labels are ordered by second, then by tick. -/
def Label.lt (a b : Label) : Bool := decide (a.second < b.second) || (a.second == b.second && decide (a.tick < b.tick))

/-- `a` is not later than `b`. -/
def Label.le (a b : Label) : Bool := !b.lt a

/-- A label's place in the sequence of labels at rate `fo`. -/
def Label.ordinal (fo : Nat) (l : Label) : Nat := l.second * fo + l.tick

/-- The largest grid second. -/
def maxSecond : Nat := 4294967295

/-- The last label at rate `fo` (R19). -/
def Label.last (fo : Nat) : Label := ⟨maxSecond, fo - 1⟩

/-- The next label: after the last tick of a second comes tick 0 of the next. -/
def Label.next (fo : Nat) (l : Label) : Label := if l.tick + 1 < fo then ⟨l.second, l.tick + 1⟩ else ⟨l.second + 1, 0⟩

end Sys2Proof

namespace Sys2Proof.Machine

/-! ### Counters (R4) -/

/-- The value a 32-bit counter stops at. -/
def counterMax : Nat := 4294967295

/-- A counter goes up by `k` and stops at its largest value. -/
def bumpBy (k n : Nat) : Nat := min (n + k) counterMax

/-- A counter goes up by one. -/
def bump (n : Nat) : Nat := bumpBy 1 n

/-! ### Lists kept by number -/

/-- The value kept for `i`, `d` where none is listed. -/
def sparseGet {α : Type} (d : α) (i : Nat) : List (Nat × α) → α
  | [] => d
  | (k, v) :: r => if k = i then v else sparseGet d i r

/-- Keep `v` for `i`; keeping `d` removes the entry, so equal contents are equal lists. -/
def sparseSet {α : Type} [DecidableEq α] (d : α) (i : Nat) (v : α) : List (Nat × α) → List (Nat × α)
  | [] => if v = d then [] else [(i, v)]
  | (k, w) :: r =>
    if k < i then (k, w) :: sparseSet d i v r
    else if k = i then (if v = d then r else (i, v) :: r)
    else if v = d then (k, w) :: r else (i, v) :: (k, w) :: r

/-- The canonical form: numbers strictly rising, no entry equal to `d`. -/
def sparseWf {α : Type} [DecidableEq α] (d : α) : List (Nat × α) → Bool
  | [] => true
  | (k, v) :: r => decide (v ≠ d) && r.all (fun e => decide (k < e.1)) && sparseWf d r

/-- Change every kept value; values that become `d` leave the list. -/
def sparseMap {α : Type} [DecidableEq α] (d : α) (f : α → α) (m : List (Nat × α)) : List (Nat × α) :=
  m.filterMap (fun e => if f e.2 = d then none else some (e.1, f e.2))

/-! ### Four like things -/

def Four.get {α : Type} (x : Four α) (i : Fin 4) : α :=
  match i with
  | 0 => x.a0
  | 1 => x.a1
  | 2 => x.a2
  | 3 => x.a3

def Four.set {α : Type} (x : Four α) (i : Fin 4) (v : α) : Four α :=
  match i with
  | 0 => { x with a0 := v }
  | 1 => { x with a1 := v }
  | 2 => { x with a2 := v }
  | 3 => { x with a3 := v }

/-- The same change to all four. -/
def Four.map {α : Type} (f : α → α) (x : Four α) : Four α := ⟨f x.a0, f x.a1, f x.a2, f x.a3⟩

def Four.toList {α : Type} (x : Four α) : List α := [x.a0, x.a1, x.a2, x.a3]

/-! ### Changing one block of the part -/

def Part.onTimeBase (f : TimeBase → TimeBase) (p : Part) : Part := { p with timeBase := f p.timeBase }
def Part.onStreams (f : StreamTable → StreamTable) (p : Part) : Part := { p with streams := f p.streams }
def Part.onEngine (f : Engine → Engine) (p : Part) : Part := { p with engine := f p.engine }
def Part.onSorter (f : Sorter → Sorter) (p : Part) : Part := { p with sorter := f p.sorter }
def Part.onStore (f : Store → Store) (p : Part) : Part := { p with store := f p.store }
def Part.onEgress (f : Egress → Egress) (p : Part) : Part := { p with egress := f p.egress }
def Part.onControl (f : Control → Control) (p : Part) : Part := { p with control := f p.control }
def Part.onAttention (f : Attention → Attention) (p : Part) : Part := { p with attention := f p.attention }

def Part.lane (p : Part) (l : LaneId) : Lane := p.lanes.get l
def Part.onLane (l : LaneId) (f : Lane → Lane) (p : Part) : Part := { p with lanes := p.lanes.set l (f (p.lanes.get l)) }

def Part.port (p : Part) : RefPort → Port
  | .A => p.portA
  | .B => p.portB

def Part.onPort (r : RefPort) (f : Port → Port) (p : Part) : Part :=
  match r with
  | .A => { p with portA := f p.portA }
  | .B => { p with portB := f p.portB }

/-- One more free value has been used. -/
def Part.useFree (p : Part) : Part := { p with freeUses := p.freeUses + 1 }

/-- The nominal frequency in force (R2). -/
def Part.nominal (p : Part) : Nat := p.straps.nominal

/-! ### Commands -/

/-- While RESET_N is held low the part takes no input and starts no work (R1). -/
def Part.live (f : Part → Part) (p : Part) : Part := if p.pins.resetLow then p else f p

/-- A command that changes the part by `f` answers the next state; the waiting commands stay. -/
def State.run (f : Part → Part) (s : State) : Host.Outcome State Fault Refusal := .next { s with part := f s.part }

/-! ### Rates (R3) -/

/-- A permitted rate divides twice the nominal frequency. -/
def permittedRate (nominal r : Nat) : Bool := decide (r ≠ 0) && (2 * nominal % r == 0)

/-- Two rates are comparable when one is a multiple of the other. -/
def comparable (fs fo : Nat) : Bool := fs % fo == 0 || fo % fs == 0

/-- A stream of rate `fs` belongs to the labels of this tick at `fo` (00_scope, Belonging). -/
def belongs (fs fo tick : Nat) : Bool := decide (fo ≤ fs) || tick % (fo / fs) == 0

/-! ### Part time and instants (R10) -/

/-- Part time as whole nanoseconds since the origin. -/
def PartTime.ns (t : PartTime) : Nat := t.second * 1000000000 + t.nanos

/-- Part time in 1/20,000 ns since the origin (log 13). -/
def PartTime.units (t : PartTime) : Nat := t.ns * 20000 + t.frac

/-- Part time from that count; it stays at its largest value once there (R10). -/
def PartTime.ofUnits (u : Nat) : PartTime :=
  if (4294967295 * 1000000000 + 999999999) * 20000 ≤ u then ⟨4294967295, 999999999, 0⟩
  else ⟨u / 20000 / 1000000000, u / 20000 % 1000000000, u % 20000⟩

/-- Part time at a whole nanosecond. -/
def PartTime.ofNs (n : Nat) : PartTime := PartTime.ofUnits (n * 20000)

/-- Part time has reached the instant of a label. -/
def PartTime.reaches (t : PartTime) (fo : Nat) (l : Label) : Bool :=
  decide (l.second < t.second) || (l.second == t.second && decide (l.tick * 1000000000 ≤ t.nanos * fo))

/-- Part time has reached the instant of a label plus `w` milliseconds. -/
def PartTime.reachesAfter (t : PartTime) (fo : Nat) (l : Label) (w : Nat) : Bool :=
  decide (l.second * 1000000000 * fo + l.tick * 1000000000 + w * 1000000 * fo ≤ t.ns * fo)

/-- The instant of a label is later than part time plus `w` milliseconds (R95). -/
def PartTime.before (t : PartTime) (fo : Nat) (l : Label) (w : Nat) : Bool :=
  decide ((t.ns + w * 1000000) * fo < l.second * 1000000000 * fo + l.tick * 1000000000)

/-- The first label after part time; the last label where part time has reached that one too (R10, R19). -/
def PartTime.firstLabel (t : PartTime) (fo : Nat) : Label :=
  let l := Label.next fo ⟨t.second, t.nanos * fo / 1000000000⟩
  if l.second ≤ maxSecond then l else Label.last fo

/-- The instant of a label at `fo` is later than the instant `m`. -/
def Instant.isBefore (m : Instant) (fo : Nat) (l : Label) : Bool :=
  decide (m.second < l.second) || (m.second == l.second && decide (m.tick * fo < l.tick * m.rate))

/-- The instant of a label at `fo` is the instant `m`. -/
def Instant.isAt (m : Instant) (fo : Nat) (l : Label) : Bool :=
  m.second == l.second && m.tick * fo == l.tick * m.rate

/-- The instant of a label at `fo` is earlier than the instant `m`. -/
def Instant.isLater (m : Instant) (fo : Nat) (l : Label) : Bool := !m.isBefore fo l && !m.isAt fo l

/-- The instant of a label at `fo` is later than an instant that may be absent. -/
def isAfter (fo : Nat) (m : Option Instant) (l : Label) : Bool :=
  match m with
  | none => true
  | some m => m.isBefore fo l

/-- The last label at `fo` whose instant is not later than `m`: the label at that instant, where there is one. -/
def Instant.labelAt (m : Instant) (fo : Nat) : Label := ⟨m.second, m.tick * fo / m.rate⟩

/-- The first label at `fo` whose instant is later than `m` (R76); the last label where there is none. -/
def Instant.firstLabel (m : Instant) (fo : Nat) : Label :=
  let l := Label.next fo (m.labelAt fo)
  if l.second ≤ maxSecond then l else Label.last fo

end Sys2Proof.Machine
end

