-- ==== Sys2Proof/Machine/Flags.lean ====
section
/-! DEFINITION. The attention causes, the ATTN line and the notice gate (R169 to R177), and the transmitter of the
Control Link that carries notices and replies (R163). -/

namespace Sys2Proof.Machine

/-! ### Sets of causes (R170) -/

def CauseSet.has (s : CauseSet) : Cause → Bool
  | .time => s.time
  | .pool => s.pool
  | .lane => s.lane
  | .stream => s.stream
  | .stranger => s.stranger
  | .egress => s.egress

def CauseSet.put (s : CauseSet) (v : Bool) : Cause → CauseSet
  | .time => { s with time := v }
  | .pool => { s with pool := v }
  | .lane => { s with lane := v }
  | .stream => { s with stream := v }
  | .stranger => { s with stranger := v }
  | .egress => { s with egress := v }

def CauseSet.inter (s t : CauseSet) : CauseSet :=
  ⟨s.time && t.time, s.pool && t.pool, s.lane && t.lane, s.stream && t.stream, s.stranger && t.stranger,
    s.egress && t.egress⟩

def CauseSet.nonempty (s : CauseSet) : Bool := s.time || s.pool || s.lane || s.stream || s.stranger || s.egress

/-- The priority number of the highest cause of a set; 0 for none (R169, R170). -/
def CauseSet.highest (s : CauseSet) : Nat :=
  if s.time then 1 else if s.pool then 2 else if s.lane then 3 else if s.stream then 4
  else if s.stranger then 5 else if s.egress then 6 else 0

def bit (b : Bool) (weight : Nat) : Nat := if b then weight else 0

/-- A set of causes as a byte: bit 0 TIME to bit 5 EGRESS (11, field types). -/
def CauseSet.code (s : CauseSet) : Nat :=
  bit s.time 1 + bit s.pool 2 + bit s.lane 4 + bit s.stream 8 + bit s.stranger 16 + bit s.egress 32

def CauseSet.ofByte (b : Byte) : CauseSet :=
  ⟨b.getLsbD 0, b.getLsbD 1, b.getLsbD 2, b.getLsbD 3, b.getLsbD 4, b.getLsbD 5⟩

/-! ### The Control Link transmitter (R163) -/

/-- The reply of the first REPLYING entry. -/
def firstReply : List RequestEntry → Option Reply
  | [] => none
  | e :: r =>
    match e.state with
    | .replying x => some x
    | .waiting | .executing => firstReply r

/-- The message the transmit arbiter chooses: the reply formed earliest, or else the notice. -/
def Control.choose (c : Control) : Option (MessageSource × List Byte) :=
  match firstReply c.queue, c.refusal with
  | some e, some r =>
    if e.stamp ≤ r.stamp then some (.entry, envelope kindReply e.body) else some (.refusal, envelope kindReply r.body)
  | some e, none => some (.entry, envelope kindReply e.body)
  | none, some r => some (.refusal, envelope kindReply r.body)
  | none, none => c.notice.map (fun n => (.notice, envelope kindNotice n))

/-- The transmitter starts the message the arbiter chooses, when none is in flight and neither ISOLATE nor RESET_N
stops it. A notice that starts no longer waits. -/
def startMessage (p : Part) : Part :=
  if p.control.inFlight.isSome || p.pins.isolate || p.pins.resetLow then p
  else
    match p.control.choose with
    | none => p
    | some (src, env) =>
      p.onControl (fun c =>
        { c with
          inFlight := some ⟨src, env, p.straps.ctlRate⟩
          notice := if src = .notice then none else c.notice })

/-! ### The Attention Unit -/

/-- The level R172 gives ATTN. -/
def attnLevel (p : Part) : Bool := !p.pins.isolate && (p.attention.pending.inter p.attention.mask).nonempty

/-- ATTN is re-evaluated (R172). -/
def evalAttn (p : Part) : Part := p.onAttention (fun a => { a with attn := attnLevel p })

/-- The body of a notice: the highest enabled pending cause and the pending set (R173, R190). -/
def noticeBody (a : Attention) : List Byte := be 1 (a.pending.inter a.mask).highest ++ be 1 a.pending.code

/-- One notice is handed to the Control Link and the gate closes (R173). -/
def handNotice (p : Part) : Part :=
  startMessage
    ((p.onControl (fun c => { c with notice := some (noticeBody p.attention) })).onAttention
      (fun a => { a with gateOpen := false }))

/-- A cause becomes pending and ATTN follows; no notice is considered. -/
def makePending (c : Cause) (p : Part) : Part :=
  evalAttn (p.onAttention (fun a => { a with pending := a.pending.put true c }))

/-- A cause is raised while a RESTART takes its reset event, or where no notice may be handed (R173, R176). -/
def raiseQuiet (c : Cause) (p : Part) : Part := if p.attention.pending.has c then p else makePending c p

/-- A cause is raised (R173). -/
def raise (c : Cause) (p : Part) : Part :=
  if p.attention.pending.has c then p
  else if p.pins.isolate || !p.attention.mask.has c || !p.attention.gateOpen then makePending c p
  else handNotice (makePending c p)

/-- A cause is cleared; the gate stays (R171). -/
def clearCause (c : Cause) (p : Part) : Part :=
  evalAttn (p.onAttention (fun a => { a with pending := a.pending.put false c }))

/-- A notice is handed if the gate is OPEN, an enabled cause is pending and ISOLATE is not asserted (R174 to R177). -/
def handIfDue (p : Part) : Part :=
  if !p.pins.isolate && p.attention.gateOpen && (p.attention.pending.inter p.attention.mask).nonempty then handNotice p
  else p

end Sys2Proof.Machine
end

