-- ==== Sys2Proof/Machine/Operands.lean ====
section
/-! DEFINITION. The operands of a request and the results of a reply: field types, named choices and statuses (11,
Control framing; R190), and the Request Executor that runs the EXECUTING entry (R157 to R162). -/

namespace Sys2Proof.Machine

/-! ### Results -/

def flag (b : Bool) : List Byte := be 1 (if b then 1 else 0)

/-- An optional result: 0, or 1 and the result (R190). -/
def opt {α : Type} (enc : α → List Byte) : Option α → List Byte
  | none => be 1 0
  | some a => be 1 1 ++ enc a

/-- A list of varying length: its count in one byte, then the items (R190). -/
def counted {α : Type} (enc : α → List Byte) (l : List α) : List Byte := be 1 l.length ++ l.flatMap enc

def labelBytes (l : Label) : List Byte := be 4 l.second ++ be 2 l.tick

def RefPort.code : RefPort → Nat
  | .A => 0
  | .B => 1

def PortState.code : PortState → Nat
  | .silent => 0
  | .acquiring => 1
  | .qualified => 2

def BadReason.code : BadReason → Nat
  | .interval => 0
  | .noMessage => 1
  | .sequence => 2
  | .unlocked => 3
  | .missing => 4

def TimeState.code : TimeState → Nat
  | .unset => 0
  | .tracking => 1
  | .holdover => 2
  | .expired => 3

/-- The state of an entry: 0 is VACANT. -/
def StreamState.code : StreamState → Nat
  | .armed => 1
  | .live => 2
  | .stale => 3
  | .suspended => 4
  | .retiring => 5

def Slot.code (s : Slot) : Nat :=
  match s.stream with
  | none => 0
  | some st => st.state.code

def EngineMode.code : EngineMode → Nat
  | .idle => 0
  | .run => 1
  | .reinit => 2
  | .frozen => 3

def EpochState.code : EpochState → Nat
  | .opened => 0
  | .due => 1

def OpenedBy.code : OpenedBy → Nat
  | .strobe => 0
  | .frame => 1

def VoidPolicy.code : VoidPolicy → Nat
  | .emit => 0
  | .suppress => 1

def FlowState.code : FlowState → Nat
  | .flowing => 0
  | .held => 1

def FlowKind.code : FlowKind → Nat
  | .hold => 0
  | .go => 1

def RecordKind.code : RecordKind → Nat
  | .set => 0
  | .strag => 1

def ResetEvent.code : ResetEvent → Nat
  | .powerOn => 0
  | .pin => 1
  | .restartFull => 2
  | .restartAlignment => 3

/-! ### Statuses (R161) -/

inductive Status where
  | done
  | queueFull
  | unknown
  | malformed
  | range
  | state
  | absent
  | occupied
  | conflict
  | unqualified
  | depth
  deriving DecidableEq, Repr

def Status.code : Status → Nat
  | .done => 0
  | .queueFull => 1
  | .unknown => 2
  | .malformed => 3
  | .range => 4
  | .state => 5
  | .absent => 6
  | .occupied => 7
  | .conflict => 8
  | .unqualified => 9
  | .depth => 10

/-- A reply body: tag and code as they arrived, the status, and results for DONE only (R162). -/
def replyBody (tag code : Byte) (st : Status) (results : List Byte) : List Byte :=
  [tag, code] ++ be 1 st.code ++ (if st = .done then results else [])

/-! ### The request codes and the parameter lengths they take -/

/-- Whether a code names a request, and then whether it takes `n` parameter bytes. -/
def paramsAllowed (code n : Nat) : Option Bool :=
  match code with
  | 0x01 => some (n == 0)
  | 0x02 => some (n == 1)
  | 0x10 => some (n == 0)
  | 0x11 => some (n == 13)
  | 0x12 => some (n == 1)
  | 0x20 => some (n == 10 || n == 11)
  | 0x21 => some (n == 2 || n == 3 || n == 5 || n == 6)
  | 0x22 => some (n == 2)
  | 0x23 => some (n == 2)
  | 0x24 => some (n == 2)
  | 0x25 => some (n == 2)
  | 0x26 => some (n == 0)
  | 0x27 => some (n == 0)
  | 0x30 => some (n == 14)
  | 0x31 => some (n == 0)
  | 0x32 => some (n == 0 || n == 6)
  | 0x38 => some (n == 0)
  | 0x40 => some (n == 5)
  | 0x41 => some (n == 1)
  | 0x48 => some (n == 0)
  | 0x49 => some (n == 2)
  | 0x50 => some (n == 2)
  | 0x51 => some (n == 0)
  | 0x52 => some (n == 0)
  | 0x53 => some (n == 0)
  | 0x58 => some (n == 0)
  | 0x59 => some (n == 1)
  | 0x60 => some (n == 2)
  | 0x61 => some (decide (3 ≤ n) && decide (n ≤ 1022))
  | 0x62 => some (n == 0)
  | _ => none

/-! ### The request queue (R157, R158) -/

/-- The EXECUTING entry. -/
def executing : List RequestEntry → Option RequestEntry
  | [] => none
  | e :: r =>
    match e.state with
    | .executing => some e
    | .waiting | .replying _ => executing r

/-- The oldest WAITING entry becomes EXECUTING. -/
def startWaiting : List RequestEntry → List RequestEntry
  | [] => []
  | e :: r =>
    match e.state with
    | .waiting => { e with state := .executing } :: r
    | .executing | .replying _ => e :: startWaiting r

/-- The executor starts the oldest WAITING entry when none is EXECUTING (R159). -/
def startNext (q : List RequestEntry) : List RequestEntry := if (executing q).isSome then q else startWaiting q

/-- The executor starts what waits for it, unless RESET_N stops it (R1, R159, log 46). -/
def Part.started (p : Part) : Part := Part.live (Part.onControl (fun c => { c with queue := startNext c.queue })) p

/-- The EXECUTING entry becomes REPLYING. -/
def setReply (x : Reply) : List RequestEntry → List RequestEntry
  | [] => []
  | e :: r =>
    match e.state with
    | .executing => { e with state := .replying x } :: r
    | .waiting | .replying _ => e :: setReply x r

/-- The EXECUTING entry leaves the queue. -/
def dropExecuting : List RequestEntry → List RequestEntry
  | [] => []
  | e :: r =>
    match e.state with
    | .executing => r
    | .waiting | .replying _ => e :: dropExecuting r

/-- The first REPLYING entry leaves the queue: its reply has been sent (R163). -/
def dropReplied : List RequestEntry → List RequestEntry
  | [] => []
  | e :: r =>
    match e.state with
    | .replying _ => r
    | .waiting | .executing => e :: dropReplied r

/-- The request completes: its reply is formed and waits for the line, or, under ISOLATE, is discarded with its
entry; the next WAITING entry starts (R162, R167). -/
def complete (e : RequestEntry) (st : Status) (results : List Byte) (p : Part) : Part :=
  if p.pins.isolate then
    p.onControl (fun c => { c with queue := startNext (dropExecuting c.queue), unanswered := bump c.unanswered })
  else
    startMessage (p.onControl (fun c =>
      { c with
        queue := startNext (setReply ⟨c.stamp, replyBody e.tag e.code st results⟩ c.queue)
        stamp := c.stamp + 1 }))

/-- A request is taken (R157): appended WAITING (log 46 for when it starts); or refused with QUEUE_FULL; or discarded and
counted. -/
def takeRequest (tag code : Byte) (params : List Byte) (p : Part) : Part :=
  if p.control.queue.length < 4 then
    p.onControl (fun c => { c with queue := c.queue ++ [⟨tag, code, params, .waiting⟩] })
  else
    match p.control.refusal with
    | none =>
      startMessage (p.onControl (fun c =>
        { c with refusal := some ⟨c.stamp, replyBody tag code .queueFull []⟩, stamp := c.stamp + 1 }))
    | some _ => p.onControl (fun c => { c with unanswered := bump c.unanswered })

/-! ### Running a request (R159) -/

/-- What running a request gives: the part with its effect, the status and the results. -/
structure Served where
  part    : Part
  status  : Status
  results : List Byte

/-- A refused request changes nothing (R161). -/
def Served.refuse (p : Part) (st : Status) : Served := ⟨p, st, []⟩

/-- An accepted request. -/
def Served.done (p : Part) (results : List Byte) : Served := ⟨p, .done, results⟩

/-- The executor runs the EXECUTING entry if it is a request of this code: the parameter length is checked, then the
owner's `run` decides, and the reply is formed. `after` is what follows the reply of an accepted request.
Nothing happens where the executor runs no such request, or is held by a realignment (R160, log 5, 6). -/
def serve (code : Nat) (run : List Byte → Part → Served) (after : Part → Part) (p : Part) : Part :=
  match executing p.control.queue with
  | none => p
  | some e =>
    if e.code.toNat ≠ code || p.engine.realign.isSome then p
    else if paramsAllowed code e.params.length ≠ some true then complete e .malformed [] p
    else
      let r := run e.params p
      let q := complete e r.status r.results r.part
      if r.status = .done then after q else q

/-- A request row: the executor starts the request where it still waits, and runs it. A filing on its way to the Stream
Table stays on its way (R85, log 45). -/
def State.runRequest (f : Part → Part) (s : State) : Host.Outcome State Fault Refusal :=
  State.run (fun p => f p.started) s

/-- A request row's meaning as a change of the part. -/
def request (code : Nat) (run : List Byte → Part → Served) : Part → Part := Part.live (serve code run id)

/-! ### Parameters -/

/-- A one-byte yes or no. -/
def choiceFlag (b : Byte) : Option Bool :=
  match b.toNat with
  | 0 => some false
  | 1 => some true
  | _ => none

def choicePort (b : Byte) : Option RefPort :=
  match b.toNat with
  | 0 => some .A
  | 1 => some .B
  | _ => none

def choicePolicy (b : Byte) : Option VoidPolicy :=
  match b.toNat with
  | 0 => some .emit
  | 1 => some .suppress
  | _ => none

/-- A lane number, or none above 3. -/
def laneNumber (b : Byte) : Option LaneId :=
  match b.toNat with
  | 0 => some 0
  | 1 => some 1
  | 2 => some 2
  | 3 => some 3
  | _ => none

/-- A wait class, or none above 3. -/
def classNumber (b : Byte) : Option (Fin 4) := laneNumber b

/-- The stream index a request begins with. -/
def indexParam (ps : List Byte) : Nat := field ps 0 2

end Sys2Proof.Machine
end

