-- ==== Sys2Proof/Machine/Store.lean ====
section
/-! DEFINITION. The Payload Store: claims, returns, withdrawals, the low mark (R124 to R128), stored bits and their
verification (R129), and the sweep (R131, R183). -/

namespace Sys2Proof.Machine

/-! ### Buffers -/

/-- A buffer of the store. -/
def Store.buffer (s : Store) (n : Nat) : Buffer := sparseGet Buffer.blank n s.buffers

/-- Change a buffer of the store. -/
def Store.setBuffer (n : Nat) (b : Buffer) (s : Store) : Store :=
  { s with buffers := sparseSet Buffer.blank n b s.buffers }

/-- A buffer passes to the next holder: its state changes and its contents stay (R124). -/
def Store.pass (n : Nat) (st : BufState) (s : Store) : Store := s.setBuffer n { s.buffer n with state := st }

/-- Several buffers pass to the next holder. -/
def Store.passAll (ns : List Nat) (st : BufState) (s : Store) : Store := ns.foldl (fun s n => s.pass n st) s

def Store.freeCount (s : Store) : Nat := s.freeList.length

def passBuffer (n : Nat) (st : BufState) (p : Part) : Part := p.onStore (Store.pass n st)

/-! ### The low mark (R127, R128) -/

/-- The low-mark state the free count calls for. -/
def Store.isBelow (s : Store) : Bool := decide (s.freeCount < s.lowMark)

/-- The low-mark state is evaluated with no cause raised: at returns and at reset events. -/
def Store.evalQuiet (s : Store) : Store := { s with below := s.isBelow }

/-- The low-mark state is evaluated after a claim, a withdrawal or a change of the mark; a downward crossing raises
POOL. -/
def evalLowMark (p : Part) : Part :=
  let q := p.onStore Store.evalQuiet
  if !p.store.below && p.store.isBelow then raise .pool q else q

/-- The lowest free count follows the free count down. -/
def Store.noteLowest (s : Store) : Store := { s with lowestFree := min s.lowestFree s.freeCount }

/-! ### Claims, returns, withdrawals (R125, R126) -/

/-- A claim takes the buffer at the head of the free list, which becomes FILLING with nothing in it; on an empty list
it is the exhaustion event. -/
def claim (p : Part) : Part × Option Nat :=
  match p.store.freeList with
  | [] => (raise .pool (p.onStore (fun s => { s with claimsFailed := bump s.claimsFailed })), none)
  | n :: rest =>
    (evalLowMark (p.onStore (fun s => (Store.setBuffer n ⟨.filling, [], []⟩ { s with freeList := rest }).noteLowest)),
      some n)

/-- Buffers are returned: each becomes FREE and joins the tail of the free list in the order given; the low-mark state
is evaluated once, after the last. -/
def Store.giveBack (ns : List Nat) (s : Store) : Store :=
  Store.evalQuiet { s.passAll ns .free with freeList := s.freeList ++ ns }

def returnBuffers (ns : List Nat) (p : Part) : Part := p.onStore (Store.giveBack ns)

/-- A frame's buffer, where it has one, is returned. -/
def returnClaimed (n : Option Nat) (p : Part) : Part :=
  match n with
  | none => p
  | some n => returnBuffers [n] p

/-! ### Stored bits (R129) -/

/-- Flip bit `k` of a run of bytes, counted from bit 0 of the first byte. -/
def flipBit : Nat → List Byte → List Byte
  | _, [] => []
  | k, b :: r => if k < 8 then (b ^^^ (1#8 <<< k)) :: r else b :: flipBit (k - 8) r

/-- The body as the store's cells hold it: as written, less the bits that have turned over. -/
def Buffer.stored (b : Buffer) : List Byte := b.wrongBits.foldl (fun bs k => flipBit k bs) b.body

/-- Turn a bit over: it becomes wrong, or right again. The list stays in rising order. -/
def toggleBit (k : Nat) : List Nat → List Nat
  | [] => [k]
  | j :: r => if j < k then j :: toggleBit k r else if j = k then r else k :: j :: r

/-- A stored bit of buffer `n` turns over; a buffer with nothing written holds nothing to lose. -/
def Store.upset (n k : Nat) (s : Store) : Store :=
  let b := s.buffer n
  if b.body = [] then s else s.setBuffer n { b with wrongBits := toggleBit k b.wrongBits }

/-- A body byte is written into a FILLING buffer (R107, R129). -/
def Store.write (n : Nat) (x : Byte) (s : Store) : Store :=
  s.setBuffer n { s.buffer n with body := (s.buffer n).body ++ [x] }

/-- A buffer is read for sending and its check code verified: clean, or one wrong bit, which is corrected and written
back, or uncorrectable (R129). Two or more wrong bits are uncorrectable (DEDUCED for three and more, log 4). -/
def verify (n : Nat) (p : Part) : Part × Option (List Byte) :=
  let b := p.store.buffer n
  match b.wrongBits with
  | [] => (p, some b.body)
  | [_] =>
    (p.onStore (fun s => Store.setBuffer n { b with wrongBits := [] } { s with corrections := bump s.corrections }),
      some b.body)
  | _ :: _ :: _ => (p.onStore (fun s => { s with damagedReads := bump s.damagedReads }), none)

/-! ### The sweep (R183) -/

/-- The sweep withdraws a FREE buffer from its place in the free list; it becomes SWEEPING and its bytes are written
over by the test's patterns, which the model shows as an empty body (DESIGN CHOICE, safe, log 40). -/
def withdrawBuffer (n : Nat) (p : Part) : Part :=
  evalLowMark (p.onStore (fun s =>
    (Store.setBuffer n ⟨.sweeping, [], []⟩
      { s with freeList := s.freeList.erase n, sweep := { s.sweep with testing := some n } }).noteLowest))

/-- The sweep visits indices until it finds a FREE buffer or has visited the last: `left` is how many remain. -/
def sweepVisit : Nat → Part → Part
  | 0, p => p.onStore (fun s => { s with sweep := { s.sweep with running := false } })
  | left + 1, p =>
    if (p.store.buffer p.store.sweep.next).state = .free then withdrawBuffer p.store.sweep.next p
    else
      sweepVisit left (p.onStore (fun s =>
        { s with sweep := { s.sweep with next := s.sweep.next + 1, skipped := s.sweep.skipped + 1 } }))

/-- The sweep goes on from its next index. -/
def sweepOn (p : Part) : Part := sweepVisit (16384 - p.store.sweep.next) p

/-- The test of the SWEEPING buffer ends with its verdict, and the sweep visits the next index. -/
def sweepEnd (pass : Bool) (n : Nat) (p : Part) : Part :=
  let q := if pass then returnBuffers [n] p else passBuffer n .retired p
  sweepOn (q.onStore (fun s =>
    { s with sweep := { s.sweep with
        testing := none
        next := s.sweep.next + 1
        tested := s.sweep.tested + 1
        passed := s.sweep.passed + (if pass then 1 else 0)
        retired := s.sweep.retired + (if pass then 0 else 1) } }))

/-- The test of the SWEEPING buffer ends; with no buffer under test nothing happens. -/
def sweepVerdict (pass : Bool) (p : Part) : Part :=
  match p.store.sweep.testing with
  | none => p
  | some n => sweepEnd pass n p

/-! ### Counting and rebuilding -/

/-- How many buffers are in a state other than FREE. -/
def Store.countState (s : Store) (st : BufState) : Nat := s.buffers.countP (fun e => e.2.state = st)

/-- The number of retired buffers. -/
def Store.retiredCount (s : Store) : Nat := s.countState .retired

/-- A reset event makes a buffer FREE, RETIRED ones excepted where `keep` says so (R124, R134). -/
def Buffer.freed (keep : Bool) (b : Buffer) : Buffer :=
  if keep && decide (b.state = .retired) then b else { b with state := .free }

/-- Every reset event rebuilds the free list in ascending order and evaluates the mark (R134, R127, R128). -/
def Store.rebuild (keep : Bool) (s : Store) : Store :=
  let bufs := sparseMap Buffer.blank (Buffer.freed keep) s.buffers
  let free := (countUp 0 16384).filter (fun n => decide ((sparseGet Buffer.blank n bufs).state ≠ .retired))
  Store.evalQuiet { s with buffers := bufs, freeList := free, lowestFree := free.length }

end Sys2Proof.Machine
end

