-- ==== Sys2Proof/Machine/Streams.lean ====
section
/-! DEFINITION. The Stream Table's part in events: lookup, change marks, snapshots, filings, misses, reference counts,
strangers, and the table under the reset events (R27 to R49). -/

namespace Sys2Proof.Machine

/-- The entry of an index. -/
def StreamTable.slot (t : StreamTable) (i : Nat) : Slot := sparseGet Slot.vacant i t.slots

def StreamTable.setSlot (i : Nat) (x : Slot) (t : StreamTable) : StreamTable :=
  { t with slots := sparseSet Slot.vacant i x t.slots }

/-- The registered stream of an index. -/
def Part.stream (p : Part) (i : Nat) : Option Stream := (p.streams.slot i).stream

/-- Change the stream of an index; a VACANT entry is left alone. -/
def StreamTable.onStream (i : Nat) (f : Stream → Stream) (t : StreamTable) : StreamTable :=
  match (t.slot i).stream with
  | none => t
  | some st => t.setSlot i ⟨some (f st), (t.slot i).mark⟩

/-- The entry takes a new content with its change mark set, and STREAM is raised (R30). -/
def putMarked (i : Nat) (st : Option Stream) (p : Part) : Part :=
  raise .stream (p.onStreams (StreamTable.setSlot i ⟨st, true⟩))

/-- The entry holding a stream number, with its index; VACANT entries hold none (R28). -/
def findNumber (n : Nat) : List (Nat × Slot) → Option (Nat × Stream)
  | [] => none
  | (i, x) :: r =>
    match x.stream with
    | none => findNumber n r
    | some st => if st.number = n then some (i, st) else findNumber n r

/-! ### Snapshots (R38) -/

/-- The expected item an entry gives a label's epoch: ARMED or LIVE, and belonging. -/
def expectedOf (fo tick i : Nat) (x : Slot) : Option Expected :=
  match x.stream with
  | none => none
  | some st =>
    match st.state with
    | .armed | .live => if belongs st.rate fo tick then some ⟨i, st.number, st.waitClass, false⟩ else none
    | .stale | .suspended | .retiring => none

/-- The expected list of a label, in ascending index. -/
def StreamTable.snapshot (t : StreamTable) (fo : Nat) (l : Label) : List Expected :=
  t.slots.filterMap (fun e => expectedOf fo l.tick e.1 e.2)

/-! ### Filings (R40) -/

/-- Quality and flags are folded into the condition summary. -/
def Summary.fold (q : Nat) (f : BitVec 5) (s : Summary) : Summary :=
  ⟨match s.quality with
    | none => some q
    | some w => some (max w q), s.flags ||| f⟩

/-- The filing's effect on the stream, less its state and its reference: miss count, summary, last filed label,
counters. -/
def Stream.filed (x : Filing) (st : Stream) : Stream :=
  { st with
    missCount := 0
    lastFiled := some x.label
    summary := st.summary.fold x.quality x.flags
    counters := { st.counters with
      filed := bump st.counters.filed
      tardy := if x.tardy then bump st.counters.tardy else st.counters.tardy } }

/-- A filing reaches the stream's entry (R40, steps 1 to 5) as the entry then stands: an ARMED or STALE entry becomes LIVE
with its change mark set. An entry that no longer holds the stream takes nothing (DEDUCED, log 45). -/
def fileStream (x : Filing) (p : Part) : Part :=
  match p.stream x.index with
  | none => p
  | some st =>
    if st.number ≠ x.number then p
    else
      match st.state with
      | .armed | .stale => putMarked x.index (some { st.filed x with state := .live }) p
      | .live | .suspended | .retiring => p.onStreams (StreamTable.onStream x.index (Stream.filed x))

/-- A sort's filing goes to the Stream Table: it gets there at once, or is on its way when the sort ends (R85, log 45). -/
def sendFiling (x : Filing) (p : Part) : Part :=
  if Config.filingLags p.freeUses then { p.useFree with filing := some x } else fileStream x p.useFree

/-- A filing on its way reaches the Stream Table, unless RESET_N is low (R85, log 45). -/
def Part.reached (p : Part) : Part :=
  Part.live (fun p =>
    match p.filing with
    | none => p
    | some x => fileStream x { p with filing := none }) p

/-- An event of a block other than the Request Executor: a filing on its way reaches the Stream Table before it (R85,
log 45). -/
def State.event (f : Part → Part) (s : State) : Host.Outcome State Fault Refusal := State.run (fun p => f p.reached) s

/-- Nothing is under way between two events: the filing has reached the Stream Table, and the executor has started what
waits for it (log 45, 46). -/
def Part.settled (p : Part) : Part := p.reached.started

/-! ### Reference counts (R36, R37) -/

/-- One of the stream's buffers has returned: the count falls, and a RETIRING entry whose count reaches 0 becomes
VACANT. -/
def refDec (i : Nat) (p : Part) : Part :=
  match p.stream i with
  | none => p
  | some st =>
    if st.refCount ≤ 1 ∧ st.state = .retiring then putMarked i none p
    else p.onStreams (StreamTable.onStream i (fun st => { st with refCount := st.refCount - 1 }))

/-- The references of several streams fall, in order. -/
def refDecAll (is : List Nat) (p : Part) : Part := is.foldl (fun p i => refDec i p) p

/-- A filed frame, or a late frame handed to the Straggler Queue, is counted against its stream. -/
def Stream.refInc (st : Stream) : Stream := { st with refCount := st.refCount + 1 }

/-! ### Misses (R42, R43) -/

/-- A counted miss. -/
def Stream.missed (st : Stream) : Stream :=
  { st with
    missCount := min (st.missCount + 1) 255
    counters := { st.counters with misses := bump st.counters.misses } }

/-- A miss is reported against an index and the number recorded for it, and arrives (R42, R43; at once, log 49). The answer says whether the entry became STALE,
which sends a withdrawal (R39). -/
def reportMiss (i n : Nat) (p : Part) : Part × Bool :=
  match p.stream i with
  | none => (p, false)
  | some st =>
    if st.number ≠ n then (p, false)
    else
      match st.state with
      | .armed | .live =>
        if p.engine.cfg.staleThreshold ≤ st.missed.missCount then
          (putMarked i (some { st.missed with state := .stale }) p, true)
        else (p.onStreams (StreamTable.onStream i Stream.missed), false)
      | .stale | .suspended | .retiring => (p.onStreams (StreamTable.onStream i Stream.missed), false)

/-! ### Strangers (R47) -/

/-- One more frame of a listed number. -/
def sightAgain (n : Nat) : List Stranger → List Stranger
  | [] => []
  | x :: r => if x.number = n then { x with seen := min (x.seen + 1) 65535 } :: r else x :: sightAgain n r

/-- A sighting is reported: counted in its entry, or listed, or counted as unlisted. -/
def sighting (n : Nat) (lane : LaneId) (own : Label) (p : Part) : Part :=
  if p.streams.strangers.any (fun x => x.number == n) then
    p.onStreams (fun t => { t with strangers := sightAgain n t.strangers })
  else if p.streams.strangers.length < 16 then
    raise .stranger (p.onStreams (fun t => { t with strangers := t.strangers ++ [⟨n, lane, own, 1⟩] }))
  else raise .stranger (p.onStreams (fun t => { t with unlisted := bump t.unlisted }))

/-! ### Reset events (R27, R29, R49) -/

/-- RESTART ALIGNMENT on an entry: LIVE and STALE become ARMED, RETIRING becomes VACANT, both with the mark set; miss
and reference counts become 0. -/
def Slot.realigned (x : Slot) : Slot :=
  match x.stream with
  | none => x
  | some st =>
    match st.state with
    | .live | .stale => ⟨some { st with state := .armed, missCount := 0, refCount := 0 }, true⟩
    | .retiring => ⟨none, true⟩
    | .armed | .suspended => ⟨some { st with missCount := 0, refCount := 0 }, x.mark⟩

def StreamTable.realigned (t : StreamTable) : StreamTable :=
  { t with slots := sparseMap Slot.vacant Slot.realigned t.slots }

/-- Whether any change mark is set. -/
def StreamTable.anyMark (t : StreamTable) : Bool := t.slots.any (fun e => e.2.mark)

end Sys2Proof.Machine
end

