-- ==== Sys2Proof/Machine/Egress.lean ====
section
/-! DEFINITION. The Set Link Transmitter: stop sources, the egress arbiter, the forming of SET and STRAG records, their
start and what they give back when they end (R138 to R150, R189). -/

namespace Sys2Proof.Machine

/-! ### Stop sources and state (R138, R139) -/

/-- At least one stop source is present. -/
def Part.stopped (p : Part) : Bool := p.egress.pausedAt.isSome || p.egress.hostHold || p.pins.isolate

inductive TransmitterState where
  | idle
  | sending
  | stopped
  deriving DecidableEq, Repr

/-- The transmitter state follows from the record in flight and the stop sources (R139). -/
def Part.transmitter (p : Part) : TransmitterState :=
  if p.egress.inFlight.isSome then .sending else if p.stopped then .stopped else .idle

def TransmitterState.code : TransmitterState → Nat
  | .idle => 0
  | .sending => 1
  | .stopped => 2

/-! ### The arbiter (R140) -/

/-- Which head the arbiter chooses, and its count afterwards. -/
def Egress.choose (e : Egress) : Option (RecordKind × Nat) :=
  match e.releaseQueue, e.stragglers with
  | [], [] => none
  | r :: _, [] => some (.set, if r.send = .resend then e.arbiter else 0)
  | [], t :: _ => some (.strag, if t.send = .resend then e.arbiter else 0)
  | r :: _, t :: _ =>
    if r.send = .resend then some (.set, e.arbiter)
    else if t.send = .resend then some (.strag, e.arbiter)
    else if e.arbiter < 4 then some (.set, e.arbiter + 1)
    else some (.strag, 0)

/-! ### Forming records (R130, R141, R142, R189) -/

/-- The flags of a SET body. -/
def SetFlags.code (f : SetFlags) : Nat :=
  (match f.principal with
    | .complete => 1
    | .incomplete => 2
    | .void => 4) +
  bit f.holdover 8 + bit f.expired 16 + bit f.tardyPresent 32 + bit f.flushed 64 + bit f.reinit 128

/-- The condition field: the frame's own five flags, TARDY, EXTRA and DAMAGED. -/
def conditionCode (own : BitVec 5) (tardy extra damaged : Bool) : Nat :=
  own.toNat + bit tardy 256 + bit extra 512 + bit damaged 1024

/-- What follows the record's own fields: quality, condition field, layout, rates and values from the body, or the
substitute of R130. -/
def bodyPart (tardy extra : Bool) : Option (List Byte) → List Byte
  | none => be 1 15 ++ be 2 (conditionCode 0 tardy extra true) ++ be 3 0 ++ be 8 0
  | some b =>
    be 1 (frameQuality b) ++ be 2 (conditionCode (frameFlags b) tardy extra false) ++ (b.drop 13).take 3 ++
      frameRates b ++ frameValues b

/-- A member entry of a SET body. -/
def memberEntry (m : Member) (body : Option (List Byte)) : List Byte :=
  be 4 m.number ++ be 2 m.index ++ be 1 m.lane.val ++ be 1 m.waitClass.val ++ bodyPart m.tardy m.extra body

/-- Read and verify the members' buffers in ascending index, forming their entries (R129, R141). -/
def readMembers : List Member → Part → Part × List Byte
  | [], p => (p, [])
  | m :: r, p =>
    let x := verify m.buffer p
    let y := readMembers r x.1
    (y.1, memberEntry m x.2 ++ y.2)

/-- The SET body of a record, its member entries given. -/
def setBody (node : BitVec 4) (r : SetRecord) (entries : List Byte) : List Byte :=
  be 1 node.toNat ++ be 1 r.flags.code ++ labelBytes r.label ++ be 2 r.members.length ++ be 2 r.missing.length ++
    entries ++ r.missing.flatMap (be 4)

/-- The STRAG body of a record, its buffer read. -/
def stragBody (t : StragglerRecord) (body : Option (List Byte)) : List Byte :=
  be 4 t.number ++ be 2 t.index ++ labelBytes t.label ++ be 1 t.lane.val ++ be 2 t.age ++ bodyPart false false body

/-! ### Starting and ending records (R139, R143, R149) -/

/-- The head record's send state. -/
def setHeadSet (st : SendState) : List SetRecord → List SetRecord
  | [] => []
  | r :: q => { r with send := st } :: q

def setHeadStrag (st : SendState) : List StragglerRecord → List StragglerRecord
  | [] => []
  | r :: q => { r with send := st } :: q

/-- A resend is counted when the record is chosen (R150). -/
def countResend (was : SendState) (e : Egress) : Egress :=
  if was = .resend then { e with counters := { e.counters with resent := bump e.counters.resent } } else e

/-- The set at the head starts. -/
def startSet (r : SetRecord) (count : Nat) (p : Part) : Part :=
  let x := readMembers r.members p
  x.1.onEgress (fun e =>
    { countResend r.send e with
      releaseQueue := setHeadSet .sending e.releaseQueue
      arbiter := count
      inFlight := some ⟨.set, envelope kindSet (setBody p.straps.node r x.2)⟩ })

/-- The straggler at the head starts. -/
def startStrag (t : StragglerRecord) (count : Nat) (p : Part) : Part :=
  let x := verify t.buffer p
  x.1.onEgress (fun e =>
    { countResend t.send e with
      stragglers := setHeadStrag .sending e.stragglers
      arbiter := count
      inFlight := some ⟨.strag, envelope kindStrag (stragBody t x.2)⟩ })

/-- The transmitter starts the record the arbiter chooses, when none is in flight and no stop source is present. -/
def startRecord (p : Part) : Part :=
  if p.egress.inFlight.isSome || p.stopped || p.pins.resetLow then p
  else
    match p.egress.choose, p.egress.releaseQueue, p.egress.stragglers with
    | some (.set, n), r :: _, _ => startSet r n p
    | some (.strag, n), _, t :: _ => startStrag t n p
    | _, _, _ => p

/-- The set in flight ends: buffers, references and the place are given back (R143, steps 1 to 4). -/
def endSet (r : SetRecord) (p : Part) : Part :=
  refDecAll (r.members.map Member.index)
    ((returnBuffers (r.members.map Member.buffer) p).onEgress (fun e =>
      { e with
        releaseQueue := e.releaseQueue.tail
        inFlight := none
        counters := { e.counters with setsSent := bump e.counters.setsSent } }))

/-- The straggler record in flight ends. -/
def endStrag (t : StragglerRecord) (p : Part) : Part :=
  refDec t.index
    ((returnBuffers [t.buffer] p).onEgress (fun e =>
      { e with
        stragglers := e.stragglers.tail
        inFlight := none
        counters := { e.counters with stragglersSent := bump e.counters.stragglersSent } }))

/-- Isolation breaks off the record in flight, which stays at the head as RESEND (R149). -/
def Egress.abandon (e : Egress) : Egress :=
  match e.inFlight with
  | none => e
  | some f =>
    match f.kind with
    | .set => { e with inFlight := none, releaseQueue := setHeadSet .resend e.releaseQueue }
    | .strag => { e with inFlight := none, stragglers := setHeadStrag .resend e.stragglers }

/-- The pause limit expiry falls due (R147). -/
def Part.pauseDue (p : Part) : Bool :=
  match p.egress.pausedAt with
  | none => false
  | some t => decide (p.egress.pauseLimit ≠ 0) && decide (t + p.egress.pauseLimit * 1000000 ≤ p.clock)

/-- The consumer pause is overridden (R147). -/
def overridePause (p : Part) : Part :=
  startRecord (raise .egress (p.onEgress (fun e =>
    { e with pausedAt := none, counters := { e.counters with pauseOverrides := bump e.counters.pauseOverrides } })))

/-- A straggler record could not be taken (R151). -/
def stragglerOverflow (p : Part) : Part :=
  raise .egress (p.onEgress (fun e =>
    { e with counters := { e.counters with stragglerOverflow := bump e.counters.stragglerOverflow } }))

/-- Whether a head record is RESEND. -/
def Egress.resendPending (e : Egress) : Bool :=
  e.releaseQueue.any (fun r => decide (r.send = .resend)) || e.stragglers.any (fun r => decide (r.send = .resend))

end Sys2Proof.Machine
end

