-- ==== Sys2Proof/Machine/Epochs.lean ====
section
/-! DEFINITION. The Epoch Table: opening, filing, completeness, expiry, withdrawal, release, drop, emptying, strobes,
and setting the strobe label (R51 to R81). -/

namespace Sys2Proof.Machine

/-! ### Outstanding counts and deadlines (R55) -/

def Four.allZero (c : Four Nat) : Bool := c.a0 == 0 && c.a1 == 0 && c.a2 == 0 && c.a3 == 0

/-- The number of items of each class. -/
def countClasses (es : List Expected) : Four Nat :=
  ⟨es.countP (fun x => x.waitClass = 0), es.countP (fun x => x.waitClass = 1), es.countP (fun x => x.waitClass = 2),
    es.countP (fun x => x.waitClass = 3)⟩

/-- The wait of the highest-numbered class whose outstanding count is not 0; none when all are 0. -/
def deadlineOf (waits counts : Four Nat) : Option Nat :=
  if counts.a3 ≠ 0 then some waits.a3
  else if counts.a2 ≠ 0 then some waits.a2
  else if counts.a1 ≠ 0 then some waits.a1
  else if counts.a0 ≠ 0 then some waits.a0
  else none

/-- One item of a class stops being outstanding; the deadline is recomputed. -/
def Epoch.settle (waits : Four Nat) (k : Fin 4) (e : Epoch) : Epoch :=
  let c := e.counts.set k (e.counts.get k - 1)
  { e with counts := c, deadline := deadlineOf waits c }

def Epoch.hasMember (e : Epoch) (i : Nat) : Bool := e.members.any (fun m => m.index == i)

/-- The expected item of an index. -/
def Epoch.item (e : Epoch) (i : Nat) : Option Expected := e.expected.find? (fun x => x.index == i)

/-- The items still outstanding: not withdrawn and with no member. -/
def Epoch.outstanding (e : Epoch) : List Expected :=
  e.expected.filter (fun x => !x.withdrawn && !e.hasMember x.index)

/-! ### The table -/

def Part.entries (p : Part) : List Epoch := p.engine.entries

def Part.fo (p : Part) : Nat := p.engine.cfg.fo

/-- The entry of a label. -/
def Part.epoch (p : Part) (l : Label) : Option Epoch := p.engine.entries.find? (fun e => e.label == l)

/-- Replace the entry of a label. -/
def replaceEpoch (e : Epoch) (es : List Epoch) : List Epoch := es.map (fun x => if x.label = e.label then e else x)

def Part.putEpoch (e : Epoch) (p : Part) : Part := p.onEngine (fun g => { g with entries := replaceEpoch e g.entries })

/-- Place a new entry at its label's position. -/
def insertEpoch (e : Epoch) : List Epoch → List Epoch
  | [] => [e]
  | x :: r => if e.label.lt x.label then e :: x :: r else x :: insertEpoch e r

/-- Members are kept in ascending index. -/
def insertMember (m : Member) : List Member → List Member
  | [] => [m]
  | x :: r => if m.index < x.index then m :: x :: r else x :: insertMember m r

/-- A label is passed when part time has been strobed past it (R52); the last label of all, once its strobe has been taken
(R57, log 15), an entry that a frame then opens included (log 47). -/
def Part.passed (p : Part) (l : Label) : Bool :=
  match p.engine.strobe with
  | none => false
  | some s => l.lt s || (decide (p.engine.lastLabel = .taken) && l == s)

/-- Part time has reached the entry's deadline. -/
def Part.deadlineReached (p : Part) (e : Epoch) : Bool :=
  match p.timeBase.partTime, e.deadline with
  | some t, some w => t.reachesAfter p.fo e.label w
  | _, _ => false

/-- A deadline expiry is delivered for the entry: it is OPEN, the engine runs, and part time has reached it (R20). -/
def Part.expiryDue (p : Part) (e : Epoch) : Bool :=
  decide (p.engine.mode = .run) && decide (e.state = .opened) && p.deadlineReached e

/-- The horizon moves to a leaving label; the realignment mark ends with it, and so does the seal (R68, R76, log 41). Of the
dropped labels kept, those that the horizon is not past stay kept (R144, log 37). -/
def Engine.moveHorizon (l : Label) (g : Engine) : Engine :=
  { g with
    horizon := some l
    mark := none
    sealed := none
    dropped := g.dropped.filter (fun m => m.isLater g.cfg.fo l) }

/-- The instant of the label that left the table last since a reset event: the horizon, or the realignment mark, or the seal
(R65, R68, R76, R144). -/
def Engine.newestLeft (g : Engine) : Option Instant :=
  ((g.horizon.map (fun l => ⟨l.second, l.tick, g.cfg.fo⟩)).or g.mark).or g.sealed

def Engine.count (f : WindowCounters → WindowCounters) (g : Engine) : Engine := { g with counters := f g.counters }

/-! ### Leaving the table (R66 to R69) -/

/-- Why entries leave: their turn, FLUSH_WINDOW, or realignment. -/
inductive Leaving where
  | turn
  | flush
  | realign
  deriving DecidableEq, Repr

/-- The missing list: the recorded numbers of the items that are not matched. -/
def Epoch.missing (e : Epoch) : List Nat := (e.expected.filter (fun x => !e.hasMember x.index)).map Expected.number

def Epoch.principal (e : Epoch) : Principal :=
  if e.members = [] then .void else if e.missing = [] then .complete else .incomplete

/-- The set record an entry becomes (R66). -/
def Epoch.record (e : Epoch) (fo : Nat) (ts : TimeState) (how : Leaving) : SetRecord where
  label := e.label
  fo := fo
  members := e.members
  missing := e.missing
  flags := ⟨e.principal, decide (ts = .holdover), decide (ts = .expired), e.members.any Member.tardy,
    decide (how = .flush), decide (how = .realign)⟩
  send := .waiting

def WindowCounters.release (how : Leaving) (c : WindowCounters) : WindowCounters :=
  match how with
  | .turn => { c with released := bump c.released }
  | .flush => { c with flushed := bump c.flushed }
  | .realign => { c with reinitReleased := bump c.reinitReleased }

def WindowCounters.drop (how : Leaving) (c : WindowCounters) : WindowCounters :=
  match how with
  | .turn | .flush => { c with dropped := bump c.dropped }
  | .realign => { c with reinitDropped := bump c.reinitDropped }

/-- The oldest entry leaves its slot. -/
def Engine.leave (e : Epoch) (f : WindowCounters → WindowCounters) (g : Engine) : Engine :=
  Engine.count f (Engine.moveHorizon e.label { g with entries := g.entries.tail })

/-- Void suppression: no record (R67). -/
def suppressOldest (e : Epoch) (p : Part) : Part :=
  p.onEngine (Engine.leave e (fun c => { c with suppressedVoid := bump c.suppressedVoid }))

/-- Release: a set record joins the tail of the Release Queue, and the members' buffers become RELEASED (R66). -/
def releaseOldest (how : Leaving) (e : Epoch) (p : Part) : Part :=
  ((p.onEngine (Engine.leave e (WindowCounters.release how))).onStore
      (Store.passAll (e.members.map Member.buffer) .released)).onEgress
    (fun x => { x with releaseQueue := x.releaseQueue ++ [e.record p.fo p.timeBase.state how] })

/-- Drop: buffers are returned, references fall, and EGRESS is raised, in the order in which R69 names them (DESIGN CHOICE,
unsafe, log 9: the order decides what the one notice of R173 names). -/
def dropOldest (how : Leaving) (e : Epoch) (p : Part) : Part :=
  raise .egress
    (refDecAll (e.members.map Member.index)
      (returnBuffers (e.members.map Member.buffer) (p.onEngine (Engine.leave e (WindowCounters.drop how)))))

/-- A VOID entry under SUPPRESS. -/
def Part.suppresses (p : Part) (e : Epoch) : Bool :=
  decide (e.members = []) && decide (p.engine.cfg.voidPolicy = .suppress)

/-- The Release Queue has a free place (R136). -/
def Part.hasPlace (p : Part) : Bool := decide (p.egress.releaseQueue.length < 32)

/-- Release is attempted on the oldest entry, and then on the next (R65); `fuel` is the number of entries. -/
def releaseRun : Nat → Part → Part
  | 0, p => p
  | fuel + 1, p =>
    match p.engine.entries with
    | [] => p
    | e :: _ =>
      if p.engine.mode = .run ∧ e.state = .due then
        if p.suppresses e then releaseRun fuel (suppressOldest e p)
        else if p.hasPlace then releaseRun fuel (releaseOldest .turn e p)
        else p
      else p

/-- Release is attempted, and the transmitter starts what it can. -/
def attemptRelease (p : Part) : Part := startRecord (releaseRun p.engine.entries.length p)

/-- The three cases of R75 for the oldest entry. -/
def emptyOldest (how : Leaving) (e : Epoch) (x : Part × Tally) : Part × Tally :=
  if x.1.suppresses e then (suppressOldest e x.1, { x.2 with suppressed := x.2.suppressed + 1 })
  else if x.1.hasPlace then (releaseOldest how e x.1, { x.2 with released := x.2.released + 1 })
  else (dropOldest how e x.1, { x.2 with dropped := x.2.dropped + 1 })

/-- Empty the given entries in label order. -/
def emptyEntries (how : Leaving) (es : List Epoch) (x : Part × Tally) : Part × Tally :=
  es.foldl (fun x e => emptyOldest how e x) x

/-! ### Misses, withdrawals and expiries (R42, R63, R64) -/

/-- One consequence to be carried out within an event. -/
inductive Work where
  /-- A deadline expiry is delivered for the entry of a label. -/
  | expire (l : Label)
  /-- A miss is reported for an index and its recorded number. -/
  | miss (i n : Nat)
  /-- An index is withdrawn. -/
  | withdraw (i : Nat)
  deriving DecidableEq, Repr

/-- The withdrawal of an index from one entry (R64): OPEN entries that expect it, have it not withdrawn and hold no
member for it. -/
def Epoch.withdraw (waits : Four Nat) (i : Nat) (e : Epoch) : Epoch :=
  match e.item i with
  | none => e
  | some x =>
    if e.state = .opened ∧ x.withdrawn = false ∧ e.hasMember i = false then
      Epoch.settle waits x.waitClass
        { e with expected := e.expected.map (fun y => if y.index = i then { y with withdrawn := true } else y) }
    else e

/-- An OPEN, passed entry with every outstanding count 0 becomes DUE by completeness (R62). -/
def Part.complete (p : Part) (e : Epoch) : Epoch :=
  if e.state = .opened ∧ e.counts.allZero = true ∧ p.passed e.label = true then { e with state := .due } else e

/-- Every entry that completeness makes DUE becomes DUE. -/
def completeAll (p : Part) : Part := p.onEngine (fun g => { g with entries := g.entries.map p.complete })

/-- The expiries that are due, in label order. -/
def Part.dueExpiries (p : Part) : List Work :=
  (p.engine.entries.filter p.expiryDue).map (fun e => Work.expire e.label)

/-- One consequence, and the consequences it brings. A withdrawal's completeness and expiries touch only the entries it
changed. An expiry is compared with its entry's current deadline when its turn comes: an entry whose deadline a withdrawal
of the same event has moved later or taken away receives none (R20, log 42). A miss report reaches the Stream Table within
the event of its expiry (R63), where R42 and R43 let it arrive later, after a SUSPEND_STREAM as well: DESIGN CHOICE, unsafe
(log 49). -/
def doWork (w : Work) (p : Part) : Part × List Work :=
  match w with
  | .expire l =>
    match p.epoch l with
    | none => (p, [])
    | some e =>
      if p.expiryDue e then
        (p.putEpoch { e with state := .due }, e.outstanding.map (fun x => Work.miss x.index x.number))
      else (p, [])
  | .miss i n =>
    let r := reportMiss i n p
    (r.1, if r.2 then [.withdraw i] else [])
  | .withdraw i =>
    let touched := p.engine.entries.filter (fun e => decide (e.withdraw p.engine.cfg.waits i ≠ e))
    let q := p.onEngine (fun g => { g with entries := g.entries.map (fun e =>
      if e.withdraw g.cfg.waits i = e then e else p.complete (e.withdraw g.cfg.waits i)) })
    (q, (touched.filter (fun e => q.engine.entries.any (fun x => x.label == e.label && q.expiryDue x))).map
      (fun e => Work.expire e.label))

/-- Carry out consequences, each before those still waiting (log 9). -/
def doAll : Nat → List Work → Part → Part
  | 0, _, p => p
  | _, [], p => p
  | fuel + 1, w :: ws, p =>
    let r := doWork w p
    doAll fuel (r.2 ++ ws) r.1

/-- Enough steps: an entry expires once, with one miss for each item; a stream becomes STALE once. -/
def Part.workFuel (p : Part) (n : Nat) : Nat :=
  n + p.streams.slots.length + (p.engine.entries.map (fun e => e.expected.length + 1)).sum + 1

/-- Consequences, then the releases they allow. -/
def carryOut (ws : List Work) (p : Part) : Part := attemptRelease (doAll (p.workFuel ws.length) ws p)

/-- A withdrawal sent by a request (R39, R64). -/
def withdrawIndex (i : Nat) (p : Part) : Part := carryOut [.withdraw i] p

/-- A deadline expiry for a label, when one is due (R20, R63). -/
def deadlineExpiry (l : Label) (p : Part) : Part :=
  match p.epoch l with
  | none => p
  | some e => if p.expiryDue e then carryOut [.expire l] p else p

/-! ### Opening (R56 to R59) -/

/-- The entry opened for a label. -/
def openedEntry (waits : Four Nat) (by_ : OpenedBy) (l : Label) (xs : List Expected) : Epoch where
  label := l
  state := .opened
  openedBy := by_
  expected := xs
  members := []
  counts := countClasses xs
  deadline := deadlineOf waits (countClasses xs)

/-- An entry is opened (R56). -/
def openEntry (by_ : OpenedBy) (l : Label) (p : Part) : Part :=
  p.onEngine (fun g =>
    Engine.count (fun c => { c with opened := bump c.opened })
      { g with entries := insertEpoch (openedEntry g.cfg.waits by_ l (p.streams.snapshot g.cfg.fo l)) g.entries })

/-- Whether a slot can be had for a new entry: fewer than 256 are held, or the oldest is DUE, be it later than the new label
or earlier (R59, log 37). -/
def Part.canOpen (p : Part) : Bool :=
  decide (p.engine.entries.length < 256) ||
    (match p.engine.entries with
      | [] => true
      | e :: _ => decide (e.state = .due))

/-- Label `d` has been dropped for the new label `l`. Where `d` is the later, the horizon is to move back from it, and its
instant is kept beside those kept before the drop, so that it is not opened again (R144): DESIGN CHOICE, unsafe (log 37). -/
def Engine.keepDropped (l d : Label) (before : List Instant) (g : Engine) : Engine :=
  if l.lt d then { g with dropped := ⟨d.second, d.tick, g.cfg.fo⟩ :: before } else g

/-- Where 256 are held, the oldest entry is dropped to make room for label `l` (R59). -/
def makeRoom (l : Label) (p : Part) : Part :=
  if p.engine.entries.length < 256 then p
  else
    match p.engine.entries with
    | [] => p
    | e :: _ => (dropOldest .turn e p).onEngine (Engine.keepDropped l e.label p.engine.dropped)

/-- A strobe's label is skipped (R59). -/
def skipLabel (p : Part) : Part :=
  raise .egress (p.onEngine (Engine.count (fun c => { c with skipped := bump c.skipped })))

/-- The strobe label advances; the last label of all stays (R19, R57). -/
def Engine.advance (l : Label) (g : Engine) : Engine :=
  if l = Label.last g.cfg.fo then { g with lastLabel := .taken } else { g with strobe := some (l.next g.cfg.fo) }

/-- The label was dropped ahead of an earlier one, and the label that left last is not past it (R59, R144, log 37). -/
def Part.wasDropped (p : Part) (l : Label) : Bool := p.engine.dropped.any (fun m => m.isAt p.fo l)

/-- The horizon is present and the label is not later than it; or the label was dropped, and the horizon has moved back from
it since: R69 has a frame of a dropped epoch LATE all the same (log 37). -/
def Part.left (p : Part) (l : Label) : Bool :=
  match p.engine.horizon with
  | none => false
  | some h => l.le h || p.wasDropped l

/-- The label, or one at its instant or later, left the table before a realignment that took no entry. R144 never opens it
again, though R76 has left neither mark nor horizon: DESIGN CHOICE, unsafe (log 41). -/
def Part.isSealed (p : Part) (l : Label) : Bool := !isAfter p.fo p.engine.sealed l

/-- A label that has left the table, and that a strobe does not open (R57, R144). -/
def Part.isClosed (p : Part) (l : Label) : Bool := p.left l || p.isSealed l || p.wasDropped l

/-- The Epoch Table takes the strobe for label `l` (R57, R59). A label that has left opens nothing. Where the label has an
entry although it is not later than the horizon (a frame had it opened in the place of a later entry, R59), R57's first two
cases both apply; the second is taken, so that R62 makes the passed entry DUE: DESIGN CHOICE, unsafe (log 48). -/
def takeStrobe (l : Label) (p : Part) : Part :=
  let q := p.onEngine (Engine.advance l)
  match q.epoch l with
  | some e => attemptRelease (q.putEpoch (q.complete e))
  | none =>
    if q.isClosed l then q
    else
      if q.canOpen then
        let r := openEntry .strobe l (makeRoom l q)
        attemptRelease (r.onEngine (fun g =>
          { g with entries := g.entries.map (fun e => if e.label = l then r.complete e else e) }))
      else skipLabel q

/-- A strobe is due: the engine runs, and part time has reached the strobe label's instant (R19). -/
def Part.strobeDue (p : Part) : Option Label :=
  match p.engine.strobe, p.timeBase.partTime with
  | some l, some t =>
    if p.engine.mode = .run ∧ p.engine.lastLabel = .ahead ∧ t.reaches p.fo l = true then some l else none
  | _, _ => none

/-- The strobe that is due is taken. -/
def strobe (p : Part) : Part :=
  match p.strobeDue with
  | none => p
  | some l => takeStrobe l p

/-- The strobes a forward step has reached, one at a time in label order (R18). -/
def strobeRun : Nat → Part → Part
  | 0, p => p
  | n + 1, p =>
    match p.strobeDue with
    | none => p
    | some l => strobeRun n (takeStrobe l p)

/-- How many strobes part time can have reached. -/
def Part.strobesReached (p : Part) : Nat :=
  match p.engine.strobe, p.timeBase.partTime with
  | some l, some t => (t.firstLabel p.fo).ordinal p.fo - l.ordinal p.fo + 1
  | _, _ => 0

/-- The expiries part time has reached are delivered (R20). -/
def expireDue (p : Part) : Part := carryOut p.dueExpiries p

/-- The engine takes a forward step in RUN: strobes and expiries, in the order the free value gives (R18, R70, log 8). -/
def takeForwardStep (p : Part) : Part :=
  let q := if Config.expiriesFirst p.freeUses then expireDue p.useFree else p.useFree
  expireDue (strobeRun q.strobesReached q)

/-! ### The strobe label (R10, R71, R76) -/

/-- The first label after part time, moved on past the realignment mark where that is present (R76). -/
def Engine.labelAfter (g : Engine) (t : PartTime) : Label :=
  let l := t.firstLabel g.cfg.fo
  match g.mark with
  | none => l
  | some m => if m.isBefore g.cfg.fo l then l else m.firstLabel g.cfg.fo

/-- Whether the last label is ahead of part time and of the realignment mark: otherwise it is not to be strobed (R19,
log 15). -/
def Engine.lastAhead (g : Engine) (t : PartTime) : Bool :=
  !t.reaches g.cfg.fo (Label.last g.cfg.fo) &&
    (match g.mark with
      | none => true
      | some m => m.isBefore g.cfg.fo (Label.last g.cfg.fo))

/-- The strobe label is set from part time; absent where that is not set. -/
def Engine.setStrobe (pt : Option PartTime) (g : Engine) : Engine :=
  match pt with
  | none => { g with strobe := none, lastLabel := .ahead }
  | some t => { g with strobe := some (g.labelAfter t), lastLabel := if g.lastAhead t then .ahead else .withheld }

/-- The mode the engine takes where nothing freezes it: RUN when part time is set, IDLE when it is not (R51). -/
def freeMode (pt : Option PartTime) : EngineMode := if pt.isSome then .run else .idle

/-- The Time Base has left UNSET: an IDLE engine enters RUN (R71). -/
def leaveIdle (p : Part) : Part :=
  if p.engine.mode = .idle then
    p.onEngine (fun g => { Engine.setStrobe p.timeBase.partTime g with mode := .run })
  else p

/-! ### Filing (R60, R61, R97) -/

/-- The wait class a member records (R54). -/
def Epoch.memberClass (e : Epoch) (i : Nat) (streamClass : Fin 4) : Fin 4 :=
  match e.item i with
  | none => streamClass
  | some x => x.waitClass

/-- The filing's effect on the entry: the member, and the count of an expected, non-withdrawn item. -/
def Epoch.file (waits : Four Nat) (m : Member) (e : Epoch) : Epoch :=
  let f := { e with members := insertMember m e.members }
  match e.item m.index with
  | none => f
  | some x => if e.state = .opened ∧ x.withdrawn = false then f.settle waits x.waitClass else f

/-! ### Isolation (R79) -/

/-- Of the labels from `lo` up to but not including `hi`, how many are later than the horizon, or while that is absent than
the seal (log 41), have no entry, and were not dropped (log 37). -/
def Part.labelsMissed (p : Part) (lo hi : Label) : Nat :=
  let start :=
    match p.engine.horizon, p.engine.sealed with
    | some h, _ => max (lo.ordinal p.fo) (h.ordinal p.fo + 1)
    | none, some m => max (lo.ordinal p.fo) ((m.firstLabel p.fo).ordinal p.fo)
    | none, none => lo.ordinal p.fo
  (hi.ordinal p.fo - start) -
    p.engine.entries.countP (fun e => decide (start ≤ e.label.ordinal p.fo) && e.label.lt hi) -
    p.engine.dropped.countP (fun m =>
      let l := m.labelAt p.fo
      m.isAt p.fo l && decide (start ≤ l.ordinal p.fo) && l.lt hi)

/-- The strobe label set anew on the removal of ISOLATE (R79, step 2): a last label of all whose strobe was taken stays taken
where it stays the strobe label, so that its entry stays passed (R52, R56, log 15). -/
def Engine.restrobe (t : PartTime) (g : Engine) : Engine :=
  let h := g.setStrobe (some t)
  if g.lastLabel = .taken ∧ h.lastLabel = .withheld ∧ h.strobe = g.strobe then { h with lastLabel := .taken } else h

/-- The Epoch Table acts on the removal of ISOLATE, less its releases, which follow (R79). Causes are raised while
ISOLATE still holds them quiet (R177, log 10). An absent strobe label says that the engine was IDLE when it was
frozen (log 23). -/
def resumeEngine (p : Part) : Part :=
  match p.engine.mode with
  | .idle | .run | .reinit => p
  | .frozen =>
    match p.engine.strobe, p.timeBase.partTime with
    | some l, some t =>
      let n := p.labelsMissed l (t.firstLabel p.fo)
      let q := p.onEngine (fun g =>
        Engine.count (fun c => { c with skipped := bumpBy n c.skipped })
          { Engine.restrobe t g with mode := .run })
      let r := completeAll (if n = 0 then q else raise .egress q)
      doAll (r.workFuel r.dueExpiries.length) r.dueExpiries r
    | _, pt => p.onEngine (fun g => { Engine.setStrobe pt g with mode := freeMode pt })

/-! ### Reset events (R52, R81) -/

/-- Every reset event empties the table; the mode and strobe label follow part time and ISOLATE. -/
def Engine.reset (cfg : AlignConfig) (pt : Option PartTime) (isolate : Bool) : Engine :=
  { Engine.setStrobe pt { Engine.initial 50 with cfg := cfg } with
    mode := if isolate then .frozen else freeMode pt }

end Sys2Proof.Machine
end

