-- ==== Sys2Proof/Machine/Realign.lean ====
section
/-! DEFINITION. The alignment configuration (R72, R73), the realignment (R74 to R76) and the flush (R77). -/

namespace Sys2Proof.Machine

/-! ### Parameters (R72) -/

/-- The parameters as they arrive. -/
def alignConfigOf (ps : List Byte) : Option AlignConfig :=
  match choicePolicy (byteAt ps 12), choiceFlag (byteAt ps 13) with
  | some v, some f => some ⟨field ps 0 1, ⟨field ps 1 2, field ps 3 2, field ps 5 2, field ps 7 2⟩, field ps 9 2, field ps 11 1, v, f⟩
  | _, _ => none

/-- Every value is in its range. -/
def AlignConfig.inRange (nominal : Nat) (c : AlignConfig) : Bool :=
  permittedRate nominal c.fo && c.waits.toList.all (fun w => decide (w ≤ 8000)) && decide (c.tolerance ≤ 2000) &&
    decide (1 ≤ c.staleThreshold) && decide (c.staleThreshold ≤ 255)

/-- Every registered rate is comparable with an output rate. -/
def StreamTable.comparableWith (t : StreamTable) (fo : Nat) : Bool :=
  t.slots.all (fun e =>
    match e.2.stream with
    | none => true
    | some st => comparable st.rate fo)

/-- The largest of the four class waits. -/
def AlignConfig.largestWait (c : AlignConfig) : Nat :=
  max (max c.waits.a0 c.waits.a1) (max c.waits.a2 c.waits.a3)

/-- The window depth: ceil((largest class wait + future tolerance) × Fo / 1,000) + 2. -/
def AlignConfig.depth (c : AlignConfig) : Nat := ((c.largestWait + c.tolerance) * c.fo + 999) / 1000 + 2

/-- The checks of R72 in order: the parameters, or the status that refuses them. -/
def checkAlignment (ps : List Byte) (p : Part) : Except Status AlignConfig :=
  match alignConfigOf ps with
  | none => .error .range
  | some c =>
    if c.inRange p.nominal = false then .error .range
    else if p.streams.comparableWith c.fo = false then .error .conflict
    else if 256 < c.depth then .error .depth
    else .ok c

/-- Fo, the four class waits and the future tolerance equal those in force (R73). -/
def AlignConfig.sameWindow (c d : AlignConfig) : Bool :=
  decide (c.fo = d.fo) && decide (c.waits = d.waits) && decide (c.tolerance = d.tolerance)

/-- The results of the reply (R73, R76). -/
def alignmentResults (realigned : Bool) (t : Tally) : List Byte :=
  flag realigned ++ be 2 t.released ++ be 2 t.dropped ++ be 2 t.suppressed

/-- A CONFIGURE_ALIGNMENT that is refused, or applied at once (R73). -/
def runConfigureAlignment (ps : List Byte) (p : Part) : Served :=
  match checkAlignment ps p with
  | .error st => .refuse p st
  | .ok c => .done (p.onEngine (fun g => { g with cfg := c })) (alignmentResults false ⟨0, 0, 0⟩)

/-- The parameters of the executing CONFIGURE_ALIGNMENT where it is accepted and runs a realignment. -/
def Part.realigns (p : Part) : Option AlignConfig :=
  match executing p.control.queue with
  | none => none
  | some e =>
    if e.code.toNat = 0x30 ∧ e.params.length = 14 ∧ p.engine.realign.isNone = true then
      match checkAlignment e.params p with
      | .error _ => none
      | .ok c => if c.sameWindow p.engine.cfg then none else some c
    else none

/-! ### The realignment (R74 to R76) -/

/-- One entry is taken, oldest first, by the three cases of R75. -/
def realignTake (e : Epoch) (r : Realign) (p : Part) : Part :=
  let x := emptyOldest .realign e (p, r.tally)
  x.1.onEngine (fun g => { g with realign := some { r with tally := x.2, newest := some e.label } })

/-- Up to `n` entries are taken. -/
def realignRun : Nat → Part → Part
  | 0, p => p
  | n + 1, p =>
    match p.engine.entries, p.engine.realign with
    | e :: _, some r => realignRun n (realignTake e r p)
    | _, _ => p

/-- The realignment goes on at one of its events, as far as the free value lets it (log 7). -/
def realignOn (p : Part) : Part :=
  if p.engine.realign.isSome then startRecord (realignRun (Config.realignPace p.freeUses) p.useFree) else p

/-- A realignment begins. DESIGN CHOICE, unsafe (log 36): also from FROZEN, where the CONFIGURE_ALIGNMENT was EXECUTING
when ISOLATE was asserted; R51 names REINIT from IDLE and RUN alone. -/
def beginRealign (c : AlignConfig) (p : Part) : Part :=
  realignOn (p.onEngine (fun g => { g with mode := .reinit, realign := some ⟨c, ⟨0, 0, 0⟩, none⟩ }))

/-- CONFIGURE_ALIGNMENT: a realignment begins and holds the executor, or the request completes at once. -/
def configureAlignment (p : Part) : Part :=
  match p.realigns with
  | some c => beginRealign c p
  | none => serve 0x30 runConfigureAlignment id p

/-- The engine as the realignment leaves it (R76): the mark is the instant of the newest entry that left during the emptying,
and is absent where none did. The labels that left before stay closed all the same, as R144 has it (log 41). -/
def Engine.realigned (r : Realign) (pt : Option PartTime) (isolate : Bool) (g : Engine) : Engine :=
  { Engine.setStrobe pt { g with
      cfg := r.cfg
      mark := r.newest.map (fun l => ⟨l.second, l.tick, g.cfg.fo⟩)
      sealed := if r.newest.isNone then g.newestLeft else none
      horizon := none
      realign := none } with
    mode := if isolate then .frozen else freeMode pt }

/-- The realignment has emptied the table, and completes. -/
def finishRealign (r : Realign) (p : Part) : Part :=
  let q := startRecord (p.onEngine (Engine.realigned r p.timeBase.partTime p.pins.isolate))
  match executing q.control.queue with
  | none => q
  | some e => complete e .done (alignmentResults true r.tally) q

/-- The entries still held are taken, and the realignment completes. -/
def realignmentComplete (p : Part) : Part :=
  let q := realignRun p.engine.entries.length p
  match q.engine.realign with
  | none => p
  | some r => finishRealign r q

/-! ### The flush (R77) -/

def runFlush (_ : List Byte) (p : Part) : Served :=
  let x := emptyEntries .flush p.engine.entries (p, ⟨0, 0, 0⟩)
  .done (startRecord x.1) (be 2 x.2.released ++ be 2 x.2.dropped ++ be 2 x.2.suppressed)

end Sys2Proof.Machine
end

