-- ==== Sys2Proof/Machine/Receiver.lean ====
section
/-! DEFINITION. The one way every receiver hunts (R105 to R110, R187): lead byte, header, body and check, stepping over
an envelope of another kind, and the rescan of a given-up envelope (R109). A receiver reports what it met as a
list of events; the block that owns the line acts on them in order. -/

namespace Sys2Proof.Machine

/-- What a receiver meets as bytes are taken. -/
inductive RxEvent where
  /-- A header whose length is above the link's body limit. -/
  | tooLong
  /-- A header of a kind the link does not accept. -/
  | wrongKind
  /-- A header of an accepted kind, with its body length. -/
  | started (length : Nat)
  /-- A body byte. -/
  | bodyByte (b : Byte)
  /-- The end of an envelope whose check is bad. -/
  | badCheck
  /-- The end of an envelope whose check is good. -/
  | whole (kind : Byte) (body : List Byte)
  deriving DecidableEq, Repr

/-- What a link accepts: its body limit and its kinds. -/
structure RxLimits where
  limit : Nat
  kinds : List Byte
  deriving DecidableEq, Repr

def laneLimits : RxLimits := ⟨288, [kindMeas]⟩
def tmsgLimits : RxLimits := ⟨6, [kindTime]⟩
def returnLimits : RxLimits := ⟨0, [kindPause, kindResume]⟩
def controlLimits : RxLimits := ⟨1024, [kindReq]⟩

/-- Hunting again with nothing retained; the gap timer's fields stay. -/
def Rx.hunt (r : Rx) : Rx := { r with phase := .seek, retained := [] }

/-- What a complete header leads to, `ret` being the five bytes retained: the receiver, the event, and the bytes to be
scanned again (R106). DESIGN CHOICE, safe (log 43): an envelope that is stepped over retains no bytes. -/
def Rx.header (lim : RxLimits) (ret : List Byte) (r : Rx) : Rx × List RxEvent × List Byte :=
  let len := field ret 2 3
  if lim.limit < len then (r.hunt, [.tooLong], ret.tail)
  else if lim.kinds.contains (byteAt ret 1) then ({ r with phase := .body len, retained := ret }, [.started len], [])
  else ({ r with phase := .skip (len + 2), retained := [] }, [.wrongKind], [])

/-- What the last check byte leads to, `ret` being the whole envelope retained (R108). -/
def Rx.finish (len : Nat) (ret : List Byte) (r : Rx) : Rx × List RxEvent × List Byte :=
  let cov := (ret.drop 1).take (4 + len)
  if crcBytes cov = (ret.drop (5 + len)).take 2 then (r.hunt, [.whole (byteAt ret 1) (cov.drop 4)], [])
  else (r.hunt, [.badCheck], ret.tail)

/-- One byte taken in the phase the receiver is in: the receiver, what it met, and the bytes to be scanned again. -/
def Rx.feed (lim : RxLimits) (b : Byte) (r : Rx) : Rx × List RxEvent × List Byte :=
  match r.phase with
  | .seek => if b = leadByte then ({ r with phase := .header, retained := [b] }, [], []) else (r, [], [])
  | .header =>
    let ret := r.retained ++ [b]
    if ret.length < 5 then ({ r with retained := ret }, [], []) else r.header lim ret
  | .skip n => (if n ≤ 1 then r.hunt else { r with phase := .skip (n - 1) }, [], [])
  | .body len =>
    let ret := r.retained ++ [b]
    if ret.length ≤ 5 + len then ({ r with retained := ret }, [.bodyByte b], [])
    else if ret.length < 7 + len then ({ r with retained := ret }, [], [])
    else r.finish len ret

/-- Take a run of bytes; the bytes to be scanned again come before the rest (R109). -/
def Rx.scan (lim : RxLimits) : Nat → List Byte → Rx → Rx × List RxEvent
  | 0, _, r => (r, [])
  | _, [], r => (r, [])
  | fuel + 1, b :: bs, r =>
    let out := r.feed lim b
    let more := Rx.scan lim fuel (out.2.2 ++ bs) out.1
    (more.1, out.2.1 ++ more.2)

/-- Enough steps for one byte and every rescan it can start: each given-up envelope loses its lead byte for good. -/
def Rx.fuel (r : Rx) : Nat := (r.retained.length + 2) * (r.retained.length + 2)

/-- A byte arrives on the line at `now`: the gap timer restarts with the limit in force (R110), and the byte is taken. -/
def Rx.take (lim : RxLimits) (now gapNs : Nat) (b : Byte) (r : Rx) : Rx × List RxEvent :=
  Rx.scan lim r.fuel [b] { r with lastByteAt := now, gapNs := gapNs }

/-- The gap timer runs inside an envelope, and the time since the last byte exceeds its limit (R110). -/
def Rx.gapDue (now : Nat) (r : Rx) : Bool := decide (r.phase ≠ .seek) && decide (r.lastByteAt + r.gapNs < now)

/-- The receiver is stepping over an envelope it has already disposed of. -/
def Rx.skipping (r : Rx) : Bool :=
  match r.phase with
  | .skip _ => true
  | .seek | .header | .body _ => false

end Sys2Proof.Machine
end

