-- ==== Sys2Proof/Machine/Lanes.lean ====
section
/-! DEFINITION. The Feed Lanes: what a receiver's events do (R105 to R111), the lane queue (R112), flow control (R113,
R114), line status and deltas (R115, R116), and disabling (R118). -/

namespace Sys2Proof.Machine

/-! ### Deltas and counters (R116) -/

def LaneDeltas.any (d : LaneDeltas) : Bool := d.carrier || d.overrun || d.hold

def countLane (l : LaneId) (f : LaneCounters → LaneCounters) (p : Part) : Part :=
  p.onLane l (fun x => { x with counters := f x.counters })

/-- A delta is set; LANE is raised when the lane's delta set goes from empty to non-empty. -/
def setLaneDelta (l : LaneId) (f : LaneDeltas → LaneDeltas) (p : Part) : Part :=
  let q := p.onLane l (fun x => { x with deltas := f x.deltas })
  if (p.lane l).deltas.any then q else raise .lane q

/-! ### Flow control (R113, R114) -/

/-- The due flow frame. -/
def Lane.due (x : Lane) : FlowKind :=
  match x.flow with
  | .held => .hold
  | .flowing => .go

/-- The conditions of R114 for starting a flow frame. -/
def Lane.mayStart (stopped : Bool) (x : Lane) : Bool :=
  !(x.flowTx.isSome || decide (x.lastFlow = some x.due) || stopped || x.loopback)

/-- A flow frame starts: it becomes the last flow frame and is counted. -/
def Lane.start (x : Lane) : Lane :=
  { x with
    lastFlow := some x.due
    flowTx := some x.due
    counters :=
      match x.due with
      | .hold => { x.counters with holdSent := bump x.counters.holdSent }
      | .go => { x.counters with goSent := bump x.counters.goSent } }

/-- The due flow frame starts where R114 lets it; a HOLD that starts sets the HOLD sent delta. -/
def startFlow (l : LaneId) (p : Part) : Part :=
  if (p.lane l).mayStart (p.pins.isolate || p.pins.resetLow) then
    match (p.lane l).due with
    | .hold => setLaneDelta l (fun d => { d with hold := true }) (p.onLane l Lane.start)
    | .go => p.onLane l Lane.start
  else p

/-- Every lane tests R114. -/
def startFlows (p : Part) : Part := startFlow 3 (startFlow 2 (startFlow 1 (startFlow 0 p)))

/-- The flow state R113 gives. -/
def Lane.evalFlow (x : Lane) : Lane :=
  if x.enabled = false then x
  else
    match x.flow with
    | .flowing => if x.highMark ≤ x.queue.length then { x with flow := .held } else x
    | .held => if x.queue.length ≤ x.lowMark then { x with flow := .flowing } else x

/-- The flow state is evaluated and the frame it makes due starts. -/
def evalFlow (l : LaneId) (p : Part) : Part := startFlow l (p.onLane l Lane.evalFlow)

/-- The flow frame being sent has been sent in full (R114). -/
def flowFrameEnd (l : LaneId) (p : Part) : Part :=
  match (p.lane l).flowTx with
  | none => p
  | some _ => startFlow l (p.onLane l (fun x => { x with flowTx := none }))

/-! ### The end of a frame (R108, R111, R112) -/

/-- A frame joins the tail of the lane queue. -/
def Lane.append (n len : Nat) (x : Lane) : Lane :=
  { x with
    queue := x.queue ++ [⟨n, len⟩]
    peak := max x.peak (x.queue.length + 1)
    counters := { x.counters with frames := bump x.counters.frames } }

/-- What became of a good frame. -/
inductive Taken where
  | taken
  | poolEmpty
  | overrun
  deriving DecidableEq, Repr

/-- What becomes of a good frame with the buffer it claimed. -/
def Lane.outcome (x : Lane) (claimed : Option Nat) : Taken :=
  match claimed with
  | none => .poolEmpty
  | some _ => if x.queue.length < 64 then .taken else .overrun

/-- A good frame is queued, or counted as lost. -/
def endGood (l : LaneId) (claimed : Option Nat) (len : Nat) (p : Part) : Part :=
  match claimed with
  | none => countLane l (fun c => { c with poolEmpty := bump c.poolEmpty }) p
  | some n =>
    if (p.lane l).queue.length < 64 then evalFlow l ((passBuffer n .queued p).onLane l (Lane.append n len))
    else
      setLaneDelta l (fun d => { d with overrun := true })
        (returnBuffers [n] (countLane l (fun c => { c with overrun := bump c.overrun }) p))

/-- The receiver no longer holds a frame. -/
def Lane.unclaim (x : Lane) : Lane := { x with claimed := none }

/-! ### What the receiver meets (R105 to R109) -/

def laneEvent (l : LaneId) (p : Part) : RxEvent → Part
  | .tooLong => countLane l (fun c => { c with headerError := bump c.headerError }) p
  | .wrongKind => countLane l (fun c => { c with unexpectedKind := bump c.unexpectedKind }) p
  | .started _ =>
    let c := claim p
    c.1.onLane l (fun x => { x with claimed := c.2 })
  | .bodyByte b =>
    match (p.lane l).claimed with
    | none => p
    | some n => p.onStore (Store.write n b)
  | .badCheck =>
    (returnClaimed (p.lane l).claimed (countLane l (fun c => { c with checkError := bump c.checkError }) p)).onLane l
      Lane.unclaim
  | .whole _ body => (endGood l (p.lane l).claimed body.length p).onLane l Lane.unclaim

/-- The receiver takes bytes: the lane is enabled, not in loopback, and ISOLATE is not asserted (R105, R121, R178). -/
def Part.listening (p : Part) (l : LaneId) : Bool := (p.lane l).enabled && !(p.lane l).loopback && !p.pins.isolate

/-- A byte arrives on a lane line. -/
def laneByte (l : LaneId) (b : Byte) (p : Part) : Part :=
  if p.listening l then
    let r := Rx.take laneLimits p.clock ((p.lane l).gapMs * 1000000) b (p.lane l).rx
    r.2.foldl (laneEvent l) (p.onLane l (fun x => { x with rx := r.1 }))
  else p

/-- The receiver is in SEEK with nothing retained and no frame in progress. -/
def Lane.clearRx (x : Lane) : Lane := { x with rx := x.rx.hunt, claimed := none }

/-- The gap expiry of a lane (R110). -/
def laneGap (l : LaneId) (p : Part) : Part :=
  if (p.lane l).rx.gapDue p.clock then
    let q :=
      match (p.lane l).rx.phase with
      | .seek | .skip _ => p
      | .header => countLane l (fun c => { c with headerError := bump c.headerError }) p
      | .body _ =>
        returnClaimed (p.lane l).claimed (countLane l (fun c => { c with frameTimeout := bump c.frameTimeout }) p)
    q.onLane l Lane.clearRx
  else p

/-- A frame in progress is abandoned, and an envelope being read in HUNT is dropped (R118, R121, R178). -/
def abandonFrame (l : LaneId) (p : Part) : Part :=
  let q :=
    match (p.lane l).rx.phase with
    | .seek | .header | .skip _ => p
    | .body _ =>
      returnClaimed (p.lane l).claimed (countLane l (fun c => { c with abandoned := bump c.abandoned }) p)
  q.onLane l Lane.clearRx

/-- Every lane abandons what it is receiving. DESIGN CHOICE, unsafe (log 38): the buffers join the free list in the order of
the lanes, lane 0 first. -/
def abandonFrames (p : Part) : Part := abandonFrame 3 (abandonFrame 2 (abandonFrame 1 (abandonFrame 0 p)))

/-! ### Enabling and disabling (R117, R118) -/

/-- A lane is disabled. -/
def disableLane (l : LaneId) (p : Part) : Part :=
  startFlow l ((abandonFrame l p).onLane l (fun x => { x with enabled := false, flow := .flowing }))

/-- The configuration of a lane takes effect. -/
def configureLane (l : LaneId) (enabled : Bool) (high low gap : Nat) (p : Part) : Part :=
  let q := p.onLane l (fun x => { x with highMark := high, lowMark := low, gapMs := gap })
  if enabled then
    if (p.lane l).enabled then evalFlow l q
    else evalFlow l (q.onLane l (fun x => { x.clearRx with enabled := true }))
  else if (p.lane l).enabled then disableLane l q
  else q

/-! ### Line status (R115) and receiver state (R104) -/

/-- The line status as reported: HIGH 0, LOW 1, LOOPED 2. -/
def Part.lineStatus (p : Part) (l : LaneId) : Nat :=
  if (p.lane l).loopback then 2 else if p.pins.carrier.get l then 0 else 1

/-- The receiver state as reported: OFF 0, HUNT 1, RECEIVE 2. -/
def Lane.receiverState (x : Lane) : Nat :=
  if x.enabled = false then 0
  else
    match x.rx.phase with
    | .body _ => 2
    | .seek | .header | .skip _ => 1

/-- The level of a CARRIER pin. -/
def Part.setCarrier (l : LaneId) (high : Bool) (p : Part) : Part :=
  { p with pins := { p.pins with carrier := p.pins.carrier.set l high } }

/-- A CARRIER pin takes a level; while RESET_N is low the level is only recorded (log 20). -/
def carrierChange (l : LaneId) (high : Bool) (p : Part) : Part :=
  if p.pins.carrier.get l = high then p
  else if p.pins.resetLow || (p.lane l).loopback then p.setCarrier l high
  else setLaneDelta l (fun d => { d with carrier := true }) (p.setCarrier l high)

/-! ### Loopback (R178, R179) -/

/-- The loopback flag takes a new value. -/
def setLoopback (l : LaneId) (on : Bool) (p : Part) : Part :=
  if (p.lane l).loopback = on then p
  else if on then
    setLaneDelta l (fun d => { d with carrier := true })
      ((abandonFrame l p).onLane l (fun x => { x with loopback := true }))
  else
    startFlow l (setLaneDelta l (fun d => { d with carrier := true }) (p.onLane l (fun x => { x with loopback := false })))

/-! ### Reset events (R104, R120) -/

/-- POWER_ON, PIN and RESTART FULL; the last flow frame is kept by RESTART FULL, and a flow frame being sent runs to its
end after PIN and RESTART FULL. -/
def Lane.resetFull (keepLast keepTx : Bool) (x : Lane) : Lane :=
  { Lane.initial with
    lastFlow := if keepLast then x.lastFlow else none
    flowTx := if keepTx then x.flowTx else none }

/-- RESTART ALIGNMENT on one lane. -/
def Lane.resetAlignment (x : Lane) : Lane :=
  { x with
    rx := x.rx.hunt
    claimed := none
    queue := []
    peak := 0
    flow := .flowing
    counters :=
      match x.rx.phase with
      | .seek | .header | .skip _ => x.counters
      | .body _ => { x.counters with abandoned := bump x.counters.abandoned } }

end Sys2Proof.Machine
end

