-- ==== Sys2Proof/Machine/TimeBase.lean ====
section
/-! DEFINITION. The Reference Ports (R6 to R9) and the Time Base (R10 to R24): judging, expiries, selection, measuring,
stepping, slewing, holdover, and the passing of time. -/

namespace Sys2Proof

/-- The other Reference Port. -/
def RefPort.other : RefPort → RefPort
  | .A => .B
  | .B => .A

end Sys2Proof

namespace Sys2Proof.Machine

/-! ### TIME messages (R6) -/

/-- One more message error. -/
def Port.messageError (x : Port) : Port := { x with messageErrors := bump x.messageErrors }

/-- A TIME envelope with a good check: six bytes are accepted, fewer are an error. -/
def Port.message (body : List Byte) (x : Port) : Port :=
  if body.length = 6 then
    { x with held := some (timeBody body), report := some ⟨(timeBody body).locked, (timeBody body).quality⟩ }
  else x.messageError

def Port.rxEvent (x : Port) : RxEvent → Port
  | .tooLong | .wrongKind | .badCheck => x.messageError
  | .started _ | .bodyByte _ => x
  | .whole _ body => x.message body

/-- A byte arrives on a TMSG input; the gap limit is 10 ms. -/
def tmsgByte (r : RefPort) (b : Byte) (p : Part) : Part :=
  let out := Rx.take tmsgLimits p.clock 10000000 b (p.port r).rx
  p.onPort r (fun x => out.2.foldl Port.rxEvent { x with rx := out.1 })

/-- The gap expiry of a TMSG input; an envelope being stepped over has been counted (log 14). -/
def tmsgGap (r : RefPort) (p : Part) : Part :=
  if (p.port r).rx.gapDue p.clock then
    p.onPort r (fun x =>
      let y := if x.rx.skipping then x else x.messageError
      { y with rx := y.rx.hunt })
  else p

/-! ### Time deltas (R21) -/

/-- A time delta is set and TIME is raised. -/
def setTimeDelta (f : TimeDeltas → TimeDeltas) (p : Part) : Part :=
  raise .time (p.onTimeBase (fun t => { t with deltas := f t.deltas }))

/-- A port's state has changed. -/
def portChanged : RefPort → Part → Part
  | .A => setTimeDelta (fun d => { d with a := true })
  | .B => setTimeDelta (fun d => { d with b := true })

/-- The time base state has changed. -/
def stateChanged : Part → Part := setTimeDelta (fun d => { d with state := true })

/-! ### Reference time and offset (R11) -/

/-- The reference time of a port, in ns since the origin. -/
def Port.refTime (now : Nat) (x : Port) : Option Nat :=
  x.pulseRecord.map (fun r => r.second * 1000000000 + (now - r.moment))

/-- The offset of a port: part time minus its reference time, in ns. -/
def Part.offset (p : Part) (r : RefPort) : Option Int :=
  match p.timeBase.partTime, (p.port r).refTime p.clock with
  | some t, some n => some ((t.ns : Int) - (n : Int))
  | _, _ => none

def Part.qualified (p : Part) (r : RefPort) : Bool := decide ((p.port r).state = .qualified)

/-! ### Measuring, stepping and slewing (R16 to R18) -/

/-- A step to the reference time `n` is forward. -/
def isForward (old : PartTime) (n : Nat) : Bool := decide (old.units < (PartTime.ofNs n).units)

/-- Part time jumps to the reference time `n`; slew remaining becomes 0. DESIGN CHOICE, unsafe (log 34): part time that
stands at its largest value may be carried back by a step, and a reference time past the last grid second sets part time
to its largest value. -/
def TimeBase.jump (n : Nat) (t : TimeBase) : TimeBase :=
  { t with partTime := some (PartTime.ofNs n), slew := 0, slewing := false }

/-- Part time jumps, and the stepped delta is set. -/
def jumpTo (n : Nat) (p : Part) : Part :=
  setTimeDelta (fun d => { d with stepped := true }) (p.onTimeBase (TimeBase.jump n))

/-- Part time steps; a forward step in RUN issues its strobes and expiries. -/
def stepTo (old : PartTime) (n : Nat) (p : Part) : Part :=
  if isForward old n && decide (p.engine.mode = .run) then takeForwardStep (jumpTo n p) else jumpTo n p

/-- The slew a measured offset calls for, in 1/20,000 ns (log 13). -/
def slewUnits (o : Int) : Int := o * 20000

/-- Slew remaining becomes the measured offset. -/
def TimeBase.slewBy (o : Int) (t : TimeBase) : TimeBase := { t with slew := slewUnits o, slewing := decide (o ≠ 0) }

/-- The offset is beyond the step threshold. -/
def TimeBase.beyond (t : TimeBase) (o : Int) : Bool := decide (t.cfg.stepThreshold * 1000 < o.natAbs)

/-- A measured offset is taken: part time steps to the reference time `n`, or is slewed. -/
def takeOffset (t : PartTime) (n : Nat) (o : Int) (p : Part) : Part :=
  let q := p.onTimeBase (fun tb => { tb with offset := some o })
  if p.timeBase.beyond o then stepTo t n q else q.onTimeBase (TimeBase.slewBy o)

/-- A reference is measured, and part time stepped or slewed. -/
def measure (r : RefPort) (p : Part) : Part :=
  match p.timeBase.partTime, (p.port r).refTime p.clock with
  | some t, some n => takeOffset t n ((t.ns : Int) - (n : Int)) p
  | _, _ => p

/-! ### Selection (R12, R13, R15) -/

/-- The Time Base leaves UNSET on a reference (R12, R71). -/
def leaveUnset (r : RefPort) (p : Part) : Part :=
  match (p.port r).refTime p.clock with
  | none => p
  | some n =>
    leaveIdle (stateChanged (p.onTimeBase (fun tb =>
      { TimeBase.jump n tb with state := .tracking, selected := some r, offset := some 0 })))

/-- The Time Base re-locks to a reference (R15). -/
def relock (r : RefPort) (p : Part) : Part :=
  measure r (stateChanged (p.onTimeBase (fun tb => { tb with state := .tracking, selected := some r })))

/-- The Time Base enters HOLDOVER; the selected reference is kept as the one lost (R13). -/
def enterHoldover (p : Part) : Part :=
  stateChanged (p.onTimeBase (fun tb =>
    { tb with state := .holdover, holdoverSeconds := 0, holdoverEntry := p.clock }))

/-- The selected reference is changed while TRACKING, and measured: a failover or a SELECT_REFERENCE. -/
def switchTo (r : RefPort) (p : Part) : Part :=
  measure r (p.onTimeBase (fun tb => { tb with selected := some r }))

/-- A reference has left QUALIFIED (R13). -/
def lost (r : RefPort) (p : Part) : Part :=
  if p.timeBase.state = .tracking ∧ p.timeBase.selected = some r then
    if p.timeBase.cfg.failover && p.qualified r.other then switchTo r.other p else enterHoldover p
  else p

/-- Whether a QUALIFIED reference ends UNSET (R12). -/
def TimeBase.starts (t : TimeBase) (r : RefPort) : Bool := t.cfg.failover || decide (t.cfg.preferred = r)

/-- Whether a reference is a re-lock candidate (R15). -/
def TimeBase.candidate (t : TimeBase) (r : RefPort) : Bool :=
  t.cfg.failover || decide (t.selected = some r) || decide (t.cfg.preferred = r)

/-- A reference has become QUALIFIED (R12, R15). -/
def gained (r : RefPort) (p : Part) : Part :=
  match p.timeBase.state with
  | .unset => if p.timeBase.starts r then leaveUnset r p else p
  | .tracking => p
  | .holdover | .expired => if p.timeBase.candidate r then relock r p else p

/-! ### Judging pulses (R7, R9) -/

/-- The first failing test of a pulse at `now`; none for a good pulse. -/
def Port.badReason (tolerance now : Nat) (x : Port) : Option BadReason :=
  match x.prevPulse with
  | none => some .interval
  | some t =>
    if now - t + tolerance * 1000 < 1000000000 ∨ 1000000000 + tolerance * 1000 < now - t then some .interval
    else
      match x.held with
      | none => some .noMessage
      | some h =>
        match x.lastAnnounced with
        | none => some .sequence
        | some s => if h.second ≠ s + 1 then some .sequence else if h.locked = false then some .unlocked else none

/-- What every pulse leaves behind. -/
def Port.pulsed (now : Nat) (last : Option Nat) (x : Port) : Port :=
  { x with prevPulse := some now, missingTaken := false, lastAnnounced := last, held := none }

/-- A SILENT port's pulse. -/
def Port.firstPulse (now : Nat) (x : Port) : Port :=
  let last := x.held.bind (fun h => if h.locked then some h.second else none)
  { Port.pulsed now last x with state := .acquiring, goodCount := 0 }

/-- A good pulse. -/
def Port.goodPulse (now qualify : Nat) (x : Port) : Port :=
  let g := min (x.goodCount + 1) 16
  { Port.pulsed now (x.held.map HeldMessage.second) x with
    goodCount := g
    goodSeconds := bump x.goodSeconds
    pulseRecord := x.held.map (fun h => ⟨h.second, now⟩)
    state := if x.state = .acquiring ∧ qualify ≤ g then .qualified else x.state }

/-- The loss a bad second brings; a QUALIFIED port becomes ACQUIRING. -/
def Port.badSecond (why : BadReason) (x : Port) : Port :=
  { x with
    goodCount := 0
    pulseRecord := none
    lastBad := some why
    badSeconds := bump x.badSeconds
    state := if x.state = .qualified then .acquiring else x.state }

/-- A bad pulse. -/
def Port.badPulse (now : Nat) (why : BadReason) (x : Port) : Port :=
  Port.badSecond why (Port.pulsed now (x.held.map HeldMessage.second) x)

/-- A port that was QUALIFIED has had a bad second or fallen SILENT (R9, R13). -/
def departed (r : RefPort) (was : PortState) (p : Part) : Part :=
  if was = .qualified then lost r (portChanged r p) else p

/-- A pulse arrives on a PPS input. -/
def pulse (r : RefPort) (p : Part) : Part :=
  let x := p.port r
  match x.state with
  | .silent => portChanged r (p.onPort r (Port.firstPulse p.clock))
  | .acquiring | .qualified =>
    match x.badReason p.timeBase.cfg.pulseTolerance p.clock with
    | some why => departed r x.state (p.onPort r (Port.badPulse p.clock why))
    | none =>
      let q := p.onPort r (Port.goodPulse p.clock p.timeBase.cfg.qualifyCount)
      if x.state = .acquiring then if (q.port r).state = .qualified then gained r (portChanged r q) else q
      else if q.timeBase.state = .tracking ∧ q.timeBase.selected = some r then measure r q
      else q

/-! ### Port expiries (R8) -/

/-- The missing-pulse expiry falls due: 1.5 s after the previous pulse. -/
def Port.missingDue (now : Nat) (x : Port) : Bool :=
  match x.prevPulse with
  | none => false
  | some t => decide (x.state ≠ .silent) && !x.missingTaken && decide (t + 1500000000 ≤ now)

/-- The silence expiry falls due: 3 s after the previous pulse. -/
def Port.silenceDue (now : Nat) (x : Port) : Bool :=
  match x.prevPulse with
  | none => false
  | some t => decide (x.state ≠ .silent) && decide (t + 3000000000 ≤ now)

/-- The missing-pulse expiry on the port. -/
def Port.missing (x : Port) : Port :=
  { Port.badSecond .missing x with
    missingTaken := true
    lastAnnounced := none
    held := none
    missingPulses := bump x.missingPulses }

/-- The silence expiry on the port. -/
def Port.silence (x : Port) : Port :=
  { x with state := .silent, goodCount := 0, prevPulse := none, missingTaken := false, lastAnnounced := none }

def missingPulse (r : RefPort) (p : Part) : Part :=
  if (p.port r).missingDue p.clock then departed r (p.port r).state (p.onPort r Port.missing) else p

/-- The port falls SILENT; were it still QUALIFIED, the Time Base loses it (log 30). -/
def silence (r : RefPort) (p : Part) : Part :=
  if (p.port r).silenceDue p.clock then
    let q := portChanged r (p.onPort r Port.silence)
    if (p.port r).state = .qualified then lost r q else q
  else p

/-! ### Holdover (R14) and the end of a slew (R17) -/

def TimeBase.holding (t : TimeBase) : Bool := decide (t.state = .holdover) || decide (t.state = .expired)

/-- A whole second of local oscillator time has passed since the entry to HOLDOVER. -/
def Part.holdoverDue (p : Part) : Bool :=
  p.timeBase.holding && decide (p.timeBase.holdoverSeconds < counterMax) &&
    decide (p.timeBase.holdoverEntry + (p.timeBase.holdoverSeconds + 1) * 1000000000 ≤ p.clock)

/-- HOLDOVER becomes EXPIRED once holdover seconds exceeds the limit. -/
def checkLimit (p : Part) : Part :=
  if p.timeBase.state = .holdover ∧ p.timeBase.cfg.holdoverLimit < p.timeBase.holdoverSeconds then
    stateChanged (p.onTimeBase (fun t => { t with state := .expired }))
  else p

def holdoverSecond (p : Part) : Part :=
  if p.holdoverDue then checkLimit (p.onTimeBase (fun t => { t with holdoverSeconds := t.holdoverSeconds + 1 })) else p

/-- The slew has been removed. -/
def Part.slewEndDue (p : Part) : Bool := p.timeBase.slewing && decide (p.timeBase.slew = 0)

def slewEnd (p : Part) : Part :=
  if p.slewEndDue then p.onTimeBase (fun t => { t with slewing := false }) else p

/-! ### Configuration and selection by request (R12, R15, R23, R24) -/

/-- A port whose good count reaches a new qualify count becomes QUALIFIED. -/
def promote (qualify : Nat) (r : RefPort) (p : Part) : Part :=
  if (p.port r).state = .acquiring ∧ qualify ≤ (p.port r).goodCount then
    portChanged r (p.onPort r (fun x => { x with state := .qualified }))
  else p

/-- The first of two references that passes a test. -/
def firstOf (f : RefPort → Bool) (a b : RefPort) : Option RefPort :=
  if f a then some a else if f b then some b else none

/-- Selection is evaluated again, the preferred reference first. -/
def reselect (p : Part) : Part :=
  let a := p.timeBase.cfg.preferred
  match p.timeBase.state with
  | .tracking => p
  | .unset =>
    match firstOf (fun r => p.qualified r && p.timeBase.starts r) a a.other with
    | none => p
    | some r => leaveUnset r p
  | .holdover | .expired =>
    match firstOf (fun r => p.qualified r && p.timeBase.candidate r) a a.other with
    | none => p
    | some r => relock r p

/-- The reference parameters take effect. -/
def configureReference (c : RefConfig) (p : Part) : Part :=
  reselect (checkLimit (promote c.qualifyCount .B (promote c.qualifyCount .A
    (p.onTimeBase (fun t => { t with cfg := c })))))

/-- A QUALIFIED reference is selected. -/
def selectReference (r : RefPort) (p : Part) : Part :=
  match p.timeBase.state with
  | .unset => leaveUnset r p
  | .tracking => switchTo r p
  | .holdover | .expired => relock r p

/-! ### The passing of time (R10, R17) -/

/-- Part time after `dt` ns of local oscillator time, and the slew that remains. One unit of slew goes in each ns. -/
def TimeBase.elapse (dt : Nat) (t : TimeBase) : TimeBase :=
  let gone := min t.slew.natAbs dt
  match t.partTime with
  | none => t
  | some pt =>
    if 0 ≤ t.slew then
      { t with partTime := some (PartTime.ofUnits (pt.units + dt * 20000 - gone)), slew := t.slew - gone }
    else { t with partTime := some (PartTime.ofUnits (pt.units + dt * 20000 + gone)), slew := t.slew + gone }

/-- A stored bit of the Payload Store turns over where the free value says so (R129, log 4). -/
def disturb (p : Part) : Part :=
  match Config.storeUpset p.freeUses with
  | none => p.useFree
  | some (n, k) => p.useFree.onStore (Store.upset n k)

/-- Local oscillator time passes (log 1). -/
def elapse (p : Part) : Part :=
  disturb { p.onTimeBase (TimeBase.elapse p.idleSpan) with clock := p.clock + p.idleSpan }

end Sys2Proof.Machine
end

