-- ==== Sys2Proof/Machine/Sorter.lean ====
section
/-! DEFINITION. The Frame Sorter: the arbiter (R83, R84), the order of classification (R86 to R99) and the outcomes
(R94, R97, R98, R100). -/

namespace Sys2Proof.Machine

/-! ### Classification (R86) -/

/-- What the tests of R86 say of a frame. -/
inductive Verdict where
  | noTime
  | reinit
  | malformed
  | stranger
  | suspended
  | retired
  | layoutMismatch
  | offGrid
  | decimated
  | late
  | ahead
  | duplicate
  | file
  | early
  | noEpoch
  deriving DecidableEq, Repr

/-- The structure of a body of `len` bytes is sound (R88). -/
def soundBody (nominal len : Nat) (b : List Byte) : Bool :=
  decide (24 ≤ len) && (frameLayout b).inRange && decide (len = (frameLayout b).soundLength) &&
    decide (frameNumber b ≠ 0) && decide (frameNumber b ≠ 4294967295) && decide ((frameLabel b).tick < 2 * nominal)

/-- The epoch tick of tick `t` at rate `fs` (R93). -/
def epochTick (fs fo t : Nat) : Nat := if fo ≤ fs then t / (fs / fo) else t * (fo / fs)

/-- The epoch label of a frame's own label. -/
def epochLabel (fs fo : Nat) (own : Label) : Label := ⟨own.second, epochTick fs fo own.tick⟩

/-- Part time is so far behind the label's instant that it lies beyond the future tolerance (R95). -/
def Part.isAhead (p : Part) (l : Label) : Bool :=
  match p.timeBase.partTime with
  | none => false
  | some t => t.before p.fo l p.engine.cfg.tolerance

/-- The label is at or after the strobe label and, after a realignment, later than its mark, as R65 has every label that is
opened (log 26, where the strobe label itself is not), or than the label that left last before it (R144, log 41), and none
that was dropped (R144, log 37). The last label of all stays the strobe label once its strobe has been taken (R19), so a
frame for it with no entry is early by tests 12 and 13 of R86 and by R98, where R58's 'has not yet been strobed' and R59's
NO_EPOCH for a skipped label would discard it: DESIGN CHOICE, unsafe (log 47). -/
def Part.atStrobe (p : Part) (l : Label) : Bool :=
  match p.engine.strobe with
  | none => false
  | some s => s.le l && isAfter p.fo p.engine.mark l && !p.isSealed l && !p.wasDropped l

/-- Tests 8 to 13: against the window. -/
def Part.windowVerdict (p : Part) (i : Nat) (l : Label) : Verdict :=
  if p.left l then .late
  else if p.isAhead l then .ahead
  else
    match p.epoch l with
    | some e => if e.hasMember i then .duplicate else .file
    | none => if p.atStrobe l then .early else .noEpoch

/-- Tests 4 to 13: against the stream found. -/
def Part.streamVerdict (p : Part) (i : Nat) (st : Stream) (b : List Byte) : Verdict :=
  let own := frameLabel b
  match st.state with
  | .suspended => .suspended
  | .retiring => .retired
  | .armed | .live | .stale =>
    if frameLayout b ≠ st.layout then .layoutMismatch
    else if st.rate ≤ own.tick then .offGrid
    else if p.fo ≤ st.rate ∧ own.tick % (st.rate / p.fo) ≠ 0 then .decimated
    else p.windowVerdict i (epochLabel st.rate p.fo own)

/-- The verdict on a body of `len` bytes, and the stream it was matched to. -/
def Part.verdict (p : Part) (len : Nat) (b : List Byte) : Verdict × Option (Nat × Stream) :=
  match p.engine.mode with
  | .idle => (.noTime, none)
  | .reinit => (.reinit, none)
  | .run | .frozen =>
    if soundBody p.nominal len b = false then (.malformed, none)
    else
      match findNumber (frameNumber b) p.streams.slots with
      | none => (.stranger, none)
      | some (i, st) => (p.streamVerdict i st b, some (i, st))

/-! ### Outcomes -/

def Sorter.count (f : DiscardCounters → DiscardCounters) (x : Sorter) : Sorter := { x with discards := f x.discards }

/-- The outcome counter of a verdict; filing and opening early have none. -/
def DiscardCounters.bump (v : Verdict) (c : DiscardCounters) : DiscardCounters :=
  match v with
  | .noTime => { c with noTime := Machine.bump c.noTime }
  | .reinit => { c with reinit := Machine.bump c.reinit }
  | .malformed => { c with malformed := Machine.bump c.malformed }
  | .stranger => { c with stranger := Machine.bump c.stranger }
  | .suspended => { c with suspended := Machine.bump c.suspended }
  | .retired => { c with retired := Machine.bump c.retired }
  | .layoutMismatch => { c with layoutMismatch := Machine.bump c.layoutMismatch }
  | .offGrid => { c with offGrid := Machine.bump c.offGrid }
  | .decimated => { c with decimated := Machine.bump c.decimated }
  | .late => { c with late := Machine.bump c.late }
  | .ahead => { c with ahead := Machine.bump c.ahead }
  | .duplicate => { c with duplicate := Machine.bump c.duplicate }
  | .noEpoch => { c with noEpoch := Machine.bump c.noEpoch }
  | .file | .early => c

/-- The stream counter beside a verdict (R41). -/
def StreamCounters.bump (v : Verdict) (c : StreamCounters) : StreamCounters :=
  match v with
  | .layoutMismatch => { c with layoutMismatch := Machine.bump c.layoutMismatch }
  | .decimated => { c with decimated := Machine.bump c.decimated }
  | .late => { c with late := Machine.bump c.late }
  | .duplicate => { c with duplicate := Machine.bump c.duplicate }
  | .noTime | .reinit | .malformed | .stranger | .suspended | .retired | .offGrid | .ahead | .file | .early
  | .noEpoch => c

def Stream.counted (v : Verdict) (st : Stream) : Stream := { st with counters := st.counters.bump v }

/-- The counters of a verdict: the sorter's, and the matched stream's. -/
def countVerdict (v : Verdict) (m : Option (Nat × Stream)) (p : Part) : Part :=
  let q := p.onSorter (Sorter.count (DiscardCounters.bump v))
  match m with
  | none => q
  | some (i, _) => q.onStreams (StreamTable.onStream i (Stream.counted v))

/-- A frame being sorted: its buffer, its arrival lane and its body as read. -/
structure Sorted where
  buffer : Nat
  lane   : LaneId
  body   : List Byte

/-- The age of a straggler: whole milliseconds from the own label's instant to part time (R94). -/
def Part.age (p : Part) (fs : Nat) (own : Label) : Nat :=
  match p.timeBase.partTime with
  | none => 0
  | some t =>
    min ((t.ns * fs - (own.second * 1000000000 * fs + own.tick * 1000000000)) / (1000000 * fs)) 65535

/-- A LATE frame is handed to the Straggler Queue (R94). -/
def forward (f : Sorted) (i : Nat) (st : Stream) (p : Part) : Part :=
  let own := frameLabel f.body
  startRecord
    ((((passBuffer f.buffer .straggling p).onSorter (fun x => { x with forwarded := bump x.forwarded })).onStreams
        (StreamTable.onStream i Stream.refInc)).onEgress
      (fun e => { e with
        stragglers := e.stragglers ++ [⟨i, st.number, own, f.lane, p.age st.rate own, f.buffer, .waiting⟩] }))

/-- What becomes of a LATE frame, its counters counted. -/
def takeLate (f : Sorted) (i : Nat) (st : Stream) (p : Part) : Part :=
  if p.engine.cfg.forwarding = false then returnBuffers [f.buffer] p
  else if p.egress.stragglers.length < 16 then forward f i st p
  else stragglerOverflow (returnBuffers [f.buffer] p)

/-- The entry awaits the index: expected and not withdrawn (R60). -/
def Epoch.awaits (e : Epoch) (i : Nat) : Bool :=
  match e.item i with
  | none => false
  | some x => !x.withdrawn

/-- The member record of a filing (R54). -/
def memberOf (f : Sorted) (i : Nat) (st : Stream) (e : Epoch) : Member where
  index := i
  number := st.number
  buffer := f.buffer
  lane := f.lane
  waitClass := e.memberClass i st.waitClass
  tardy := decide (e.state = .due)
  extra := (e.item i).isNone

/-- What the filing of a frame takes to the Stream Table (R40). -/
def filingOf (f : Sorted) (i : Nat) (st : Stream) (e : Epoch) : Filing where
  index := i
  number := st.number
  label := frameLabel f.body
  quality := frameQuality f.body
  flags := frameFlags f.body
  tardy := decide (e.state = .due)

/-- The filing's effects on the three tables and the counters (R97, steps 1 to 5): the reference is counted at the sort
(R40, step 6), and the rest goes to the Stream Table (R85). -/
def fileEffects (f : Sorted) (i : Nat) (st : Stream) (e : Epoch) (p : Part) : Part :=
  let x := filingOf f i st e
  (sendFiling x ((passBuffer f.buffer .filed
      (p.putEpoch (Epoch.file p.engine.cfg.waits (memberOf f i st e) e))).onStreams
        (StreamTable.onStream i Stream.refInc))).onSorter
    (fun y => { y with
      filed := bump y.filed
      filedTardy := if x.tardy then bump y.filedTardy else y.filedTardy })

/-- The entry after a filing into it becomes DUE by completeness where it can. -/
def completeAt (l : Label) (p : Part) : Part :=
  p.onEngine (fun g => { g with entries := g.entries.map (fun e => if e.label = l then p.complete e else e) })

/-- A frame is filed into an entry: its effects, then completeness or an expiry already reached, then release (R60 to
R63, R97). -/
def fileInto (f : Sorted) (i : Nat) (st : Stream) (l : Label) (p : Part) : Part :=
  match p.epoch l with
  | none => p
  | some e =>
    let q := completeAt l (fileEffects f i st e p)
    if e.awaits i && q.engine.entries.any (fun x => x.label == l && q.expiryDue x) then carryOut [.expire l] q
    else attemptRelease q

/-- An early frame: its entry is opened and it is filed, or it is refused (R98). -/
def takeEarly (f : Sorted) (i : Nat) (st : Stream) (l : Label) (p : Part) : Part :=
  if p.canOpen then
    fileInto f i st l
      ((openEntry .frame l (makeRoom l p)).onSorter (fun x => { x with openedEarly := bump x.openedEarly }))
  else
    returnBuffers [f.buffer]
      ((p.onEngine (Engine.count (fun c => { c with evictedEarly := bump c.evictedEarly }))).onSorter
        (Sorter.count (fun c => { c with windowFull := bump c.windowFull })))

/-- A matched frame meets its outcome. -/
def takeMatched (v : Verdict) (f : Sorted) (i : Nat) (st : Stream) (p : Part) : Part :=
  let l := epochLabel st.rate p.fo (frameLabel f.body)
  match v with
  | .file => fileInto f i st l p
  | .early => takeEarly f i st l p
  | .late => takeLate f i st p
  | .noTime | .reinit | .malformed | .stranger | .suspended | .retired | .layoutMismatch | .offGrid | .decimated
  | .ahead | .duplicate | .noEpoch => returnBuffers [f.buffer] p

/-- A frame that no stream matches meets its outcome. -/
def takeUnmatched (v : Verdict) (f : Sorted) (p : Part) : Part :=
  let q := returnBuffers [f.buffer] p
  if v = .stranger then sighting (frameNumber f.body) f.lane (frameLabel f.body) q else q

/-- The verdict is carried out. -/
def settle (v : Verdict) (m : Option (Nat × Stream)) (f : Sorted) (p : Part) : Part :=
  let q := countVerdict v m p
  match m with
  | none => takeUnmatched v f q
  | some (i, st) => takeMatched v f i st q

/-! ### Taking a frame (R83, R84) -/

/-- The lanes in the order the arbiter looks at them. -/
def arbiterOrder (pointer : LaneId) : List LaneId := [pointer + 1, pointer + 2, pointer + 3, pointer]

/-- The lane the arbiter chooses. -/
def Part.chosenLane (p : Part) : Option LaneId :=
  (arbiterOrder p.sorter.pointer).find? (fun l => !(p.lane l).queue.isEmpty)

/-- The oldest frame of a lane leaves its queue, the pointer and the sorted counter move, and the flow is evaluated. -/
def takeHead (l : LaneId) (p : Part) : Part :=
  evalFlow l ((p.onLane l (fun x => { x with queue := x.queue.tail })).onSorter
    (fun x => { x with pointer := l, sorted := bump x.sorted }))

/-- One sort. -/
def sortLane (l : LaneId) (e : LaneEntry) (p : Part) : Part :=
  let q := takeHead l p
  let f : Sorted := ⟨e.buffer, l, (p.store.buffer e.buffer).stored⟩
  let v := q.verdict e.length f.body
  settle v.1 v.2 f q

/-- The sorter is not free to sort: the engine is FROZEN (R84), or ISOLATE is asserted, a realignment that still runs
included (R50, R103, R135). DESIGN CHOICE, unsafe (log 35): for REINIT under ISOLATE, R84 and R87 alone would have frames
taken. -/
def Part.sorterHeld (p : Part) : Bool := decide (p.engine.mode = .frozen) || p.pins.isolate

/-- The sorter sorts one frame, when it is free to (log 35) and a queue holds one. -/
def sort (p : Part) : Part :=
  if p.sorterHeld then p
  else
    match p.chosenLane with
    | none => p
    | some l =>
      match (p.lane l).queue with
      | [] => p
      | e :: _ => sortLane l e p

end Sys2Proof.Machine
end

