-- ==== Sys2Proof/Machine/Resets.lean ====
section
/-! DEFINITION. The four reset events (R1, R2, R25, R27, R49, R52, R81, R82, R103, R104, R120, R134, R138, R154, R155,
R165, R169, R176, R184) and the assertion and removal of ISOLATE (R26, R50, R51, R78, R79, R121, R135, R149, R150,
R167, R168, R177). -/

namespace Sys2Proof.Machine

/-! ### POWER_ON and PIN -/

/-- What POWER_ON, PIN and RESTART FULL set alike; lanes, store and Control Link differ. The model's own fields and the
pin levels stay. -/
def Part.cleared (p : Part) : Part :=
  { p with
    portA := Port.initial
    portB := Port.initial
    timeBase := TimeBase.initial
    streams := StreamTable.initial
    filing := none
    engine := Engine.reset (AlignConfig.initial p.nominal) none p.pins.isolate
    sorter := Sorter.initial
    egress := Egress.initial
    attention := Attention.initial }

/-- Supply is applied: nothing was being sent, every buffer is empty. -/
def powerOn (straps : Straps) (p : Part) : Part :=
  startFlows
    { Part.cleared { p with straps := straps } with
      lastReset := .powerOn
      lanes := ⟨Lane.initial, Lane.initial, Lane.initial, Lane.initial⟩
      store := Store.initial
      control := Control.initial }

/-- What is in flight on CTL_TX goes on without the queue entry it came from. -/
def MessageInFlight.detach (m : MessageInFlight) : MessageInFlight := { m with source := .detached }

/-- RESET_N is released: the PIN event. Flow frames and a message being sent run to their ends. -/
def pin (straps : Straps) (p : Part) : Part :=
  startFlows
    { Part.cleared { p with straps := straps, pins := { p.pins with resetLow := false } } with
      lastReset := .pin
      lanes := p.lanes.map (Lane.resetFull false true)
      store := Store.rebuild false { Store.initial with buffers := p.store.buffers }
      control := { Control.initial with inFlight := p.control.inFlight.map MessageInFlight.detach } }

/-- RESET_N falls: a Set Link record in flight stops (R1, log 27). -/
def resetNAssert (p : Part) : Part :=
  if p.pins.resetLow then p
  else { p with pins := { p.pins with resetLow := true }, egress := { p.egress with inFlight := none } }

/-! ### RESTART (R165) -/

def RequestEntry.isWaiting (e : RequestEntry) : Bool := decide (e.state = .waiting)

/-- WAITING entries are discarded without a reply and counted; a waiting notice is withdrawn. -/
def Control.dropWaiting (c : Control) : Control :=
  { c with
    queue := c.queue.filter (fun e => !e.isWaiting)
    notice := none
    unanswered := bumpBy (c.queue.countP RequestEntry.isWaiting) c.unanswered }

/-- A cause is raised on the completion of a restart where its reason stands. -/
def raiseIf (b : Bool) (c : Cause) (p : Part) : Part := if b then raiseQuiet c p else p

/-- Whether any lane's delta set is non-empty. -/
def Part.anyLaneDelta (p : Part) : Bool := p.lanes.toList.any (fun x => x.deltas.any)

/-- Blocks raise their causes when a restart completes (R49, R120, R127). -/
def raiseKept (p : Part) : Part :=
  raiseIf p.anyLaneDelta .lane (raiseIf (!p.streams.strangers.isEmpty) .stranger
    (raiseIf p.streams.anyMark .stream (raiseIf p.store.below .pool p)))

/-- The reset event RESTART FULL. -/
def restartFullEvent (p : Part) : Part :=
  startFlows (raiseKept
    { Part.cleared (p.onControl Control.dropWaiting) with
      lastReset := .restartFull
      lanes := p.lanes.map (Lane.resetFull true true)
      store := Store.rebuild true { Store.initial with buffers := p.store.buffers } })

/-- The sweep ends; its next index and results stand (R184). -/
def Sweep.stop (w : Sweep) : Sweep := { w with running := false, testing := none }

/-- RESTART ALIGNMENT clears every cause but TIME, keeps the mask and opens the gate (R176). -/
def Attention.resetAlignment (a : Attention) : Attention :=
  { a with pending := { CauseSet.empty with time := a.pending.time }, gateOpen := true }

/-- The reset event RESTART ALIGNMENT. -/
def restartAlignmentEvent (p : Part) : Part :=
  let q := p.onControl Control.dropWaiting
  startFlows (raiseKept (evalAttn
    { q with
      lastReset := .restartAlignment
      streams := q.streams.realigned
      filing := none
      engine := Engine.reset q.engine.cfg q.timeBase.partTime q.pins.isolate
      sorter := { q.sorter with pointer := 3 }
      lanes := q.lanes.map Lane.resetAlignment
      store := Store.rebuild true { q.store with sweep := q.store.sweep.stop }
      egress := { Egress.initial with pauseLimit := q.egress.pauseLimit, counters := q.egress.counters }
      attention := q.attention.resetAlignment }))

/-- The results of the RESTART reply (R166). -/
def restartResults (scope : Nat) (p : Part) : List Byte := be 1 scope ++ be 1 p.lastReset.code

def runRestart (ps : List Byte) (p : Part) : Served :=
  match (byteAt ps 0).toNat with
  | 0 => .done (restartFullEvent p) (restartResults 0 (restartFullEvent p))
  | 1 => .done (restartAlignmentEvent p) (restartResults 1 (restartAlignmentEvent p))
  | _ => .refuse p .range

/-- The executing request is a RESTART of the other scope. -/
def Part.restartsAs (p : Part) (scope : Nat) : Bool :=
  match executing p.control.queue with
  | none => false
  | some e => decide (e.code.toNat = 2) && decide (e.params.length = 1) && decide ((byteAt e.params 0).toNat = scope)

/-- A RESTART row: it runs the executing RESTART, unless that one's scope is the other row's; the notice of R176
follows the reply (log 28). -/
def restartRow (other : Nat) (p : Part) : Part :=
  if p.restartsAs other then p else serve 0x02 runRestart handIfDue p

/-! ### ISOLATE -/

/-- The level of the ISOLATE pin. -/
def Part.setIsolate (v : Bool) (p : Part) : Part := { p with pins := { p.pins with isolate := v } }

def Engine.freeze (g : Engine) : Engine :=
  match g.mode with
  | .idle | .run => { g with mode := .frozen }
  | .reinit | .frozen => g

/-- The entries isolation leaves: the EXECUTING one, and the first REPLYING one where its reply is in flight. -/
def isolateQueue : Bool → List RequestEntry → List RequestEntry
  | _, [] => []
  | keep, e :: r =>
    match e.state with
    | .waiting => isolateQueue keep r
    | .executing => e :: isolateQueue keep r
    | .replying _ => if keep then e :: isolateQueue false r else isolateQueue false r

/-- What is in flight comes from the given source. -/
def Control.sends (c : Control) (src : MessageSource) : Bool :=
  match c.inFlight with
  | none => false
  | some m => decide (m.source = src)

/-- The Control Link when ISOLATE is asserted (R167). -/
def Control.isolated (c : Control) : Control :=
  let kept := isolateQueue (c.sends .entry) c.queue
  let slot := if c.sends .refusal then c.refusal else none
  { c with
    rx := c.rx.hunt
    queue := kept
    refusal := slot
    notice := none
    unanswered :=
      bumpBy ((c.queue.length - kept.length) + (c.refusal.toList.length - slot.toList.length)) c.unanswered }

/-- ISOLATE is asserted. -/
def isolateAsserted (p : Part) : Part :=
  if p.pins.isolate then p
  else if p.pins.resetLow then p.setIsolate true
  else
    evalAttn
      ((((abandonFrames ((p.setIsolate true).onEngine Engine.freeze)).onEgress Egress.abandon).onEgress
          (fun e => { e with rx := e.rx.hunt })).onControl Control.isolated)

/-- The gate opens. -/
def openGate (p : Part) : Part := p.onAttention (fun a => { a with gateOpen := true })

/-- ISOLATE is removed: the Epoch Table, the Attention Unit, the releases and the Set Link, the lanes, the Control Link,
in this order (log 10). -/
def isolateRemoved (p : Part) : Part :=
  if p.pins.isolate = false then p
  else if p.pins.resetLow then p.setIsolate false
  else startMessage (startFlows (attemptRelease (handIfDue (openGate (evalAttn ((resumeEngine p).setIsolate false))))))

end Sys2Proof.Machine
end

