-- ==== Sys2Proof/Machine/ControlRequests.lean ====
section
/-! DEFINITION. The requests of the Control Link and of the Attention Unit (R159, R164 to R166, R174, R175). -/

namespace Sys2Proof.Machine

/-! ### UNKNOWN and IDENTIFY -/

/-- The executing request's code names no request (R159). -/
def unknownRequest (p : Part) : Part :=
  match executing p.control.queue with
  | none => p
  | some e =>
    if (paramsAllowed e.code.toNat e.params.length).isNone = true ∧ p.engine.realign.isNone = true then
      complete e .unknown [] p
    else p

/-- The rate a CTL_RATE setting selects, in baud (00_scope, Signal summary). -/
def ctlBaud (r : BitVec 2) : Nat :=
  match r.toNat with
  | 0 => 115200
  | 1 => 460800
  | 2 => 921600
  | _ => 3000000

def identifyResults (p : Part) : List Byte :=
  be 2 0x0D7A ++ be 2 0x0512 ++ be 1 1 ++ be 1 p.nominal ++ be 1 p.straps.node.toNat ++
    be 1 p.straps.ctlRate.toNat ++ be 4 (ctlBaud p.straps.ctlRate) ++ be 1 p.lastReset.code ++
    be 4 p.control.envelopeErrors ++ be 4 p.control.unanswered

def runIdentify (_ : List Byte) (p : Part) : Served := .done p (identifyResults p)

/-! ### Attention (R174, R175) -/

/-- The highest cause of a set by its number of R170, 1 to 6, absent when the set is empty. DESIGN CHOICE, unsafe (log 16):
R190 gives that number to a cause in a notice, and READ_ATTENTION's reply is taken to carry it too. -/
def CauseSet.highestOpt (s : CauseSet) : Option Nat := if s.nonempty then some s.highest else none

/-- The results of READ_ATTENTION (R174; the highest pending cause by log 16). -/
def attentionResults (a : Attention) : List Byte :=
  opt (be 1) a.pending.highestOpt ++ be 1 a.pending.code ++ be 1 a.mask.code ++ flag (!a.gateOpen) ++ flag a.attn

def runReadAttention (_ : List Byte) (p : Part) : Served := .done (openGate p) (attentionResults p.attention)

def runSetMask (ps : List Byte) (p : Part) : Served :=
  if 64 ≤ (byteAt ps 0).toNat then .refuse p .range
  else .done (evalAttn (p.onAttention (fun a => { a with mask := CauseSet.ofByte (byteAt ps 0) }))) []

/-! ### Meanings -/

/-- UNKNOWN_REQUEST (R159). -/
def execUnknownRequest (s : State) : Host.Outcome State Fault Refusal := State.runRequest (Part.live unknownRequest) s

/-- IDENTIFY (R164). -/
def execIdentify (s : State) : Host.Outcome State Fault Refusal := State.runRequest (request 0x01 runIdentify) s

/-- RESTART with scope FULL (R165, R166); a filing on its way reaches the Stream Table before the reset event (log 45). -/
def execRestartFull (s : State) : Host.Outcome State Fault Refusal :=
  State.event (fun p => Part.live (restartRow 1) p.started) s

/-- RESTART with scope ALIGNMENT (R165, R166); a filing on its way reaches the Stream Table before the reset event
(log 45). -/
def execRestartAlignment (s : State) : Host.Outcome State Fault Refusal :=
  State.event (fun p => Part.live (restartRow 0) p.started) s

/-- READ_ATTENTION (R174): the notice follows the reply. -/
def execReadAttention (s : State) : Host.Outcome State Fault Refusal :=
  State.runRequest (Part.live (serve 0x58 runReadAttention handIfDue)) s

/-- SET_ATTENTION_MASK (R175): the notice follows the reply. -/
def execSetAttentionMask (s : State) : Host.Outcome State Fault Refusal :=
  State.runRequest (Part.live (serve 0x59 runSetMask handIfDue)) s

end Sys2Proof.Machine
end

