-- ==== Sys2Proof/Machine/LaneEvents.lean ====
section
/-! DEFINITION. The meanings of the Feed Lane events, of a sort and of a sweep verdict. -/

namespace Sys2Proof.Machine

/-- SORT (R83 to R101). -/
def execSort (s : State) : Host.Outcome State Fault Refusal := State.event (Part.live sort) s

/-- LANE_BYTE: a byte that neither completes a header nor ends a frame (R105, R107; log 3). -/
def execLaneByte (l : LaneId) (b : Byte) (s : State) : Host.Outcome State Fault Refusal :=
  State.event (Part.live (laneByte l b)) s

/-- LANE_HEADER: the byte that completes a header (R106, R107; log 3). -/
def execLaneHeader (l : LaneId) (b : Byte) (s : State) : Host.Outcome State Fault Refusal :=
  State.event (Part.live (laneByte l b)) s

/-- LANE_FRAME_END: the last check byte (R108, R109; log 3). -/
def execLaneFrameEnd (l : LaneId) (b : Byte) (s : State) : Host.Outcome State Fault Refusal :=
  State.event (Part.live (laneByte l b)) s

/-- LANE_GAP_EXPIRY (R110). -/
def execLaneGapExpiry (l : LaneId) (s : State) : Host.Outcome State Fault Refusal :=
  State.event (Part.live (laneGap l)) s

/-- FLOW_FRAME_END (R114); a flow frame in flight runs to its end while RESET_N is low (R1). -/
def execFlowFrameEnd (l : LaneId) (s : State) : Host.Outcome State Fault Refusal := State.event (flowFrameEnd l) s

/-- SWEEP_VERDICT (R183). -/
def execSweepVerdict (pass : Bool) (s : State) : Host.Outcome State Fault Refusal :=
  State.event (Part.live (sweepVerdict pass)) s

end Sys2Proof.Machine
end

