-- ==== Sys2Proof/Machine/LaneRequests.lean ====
section
/-! DEFINITION. The requests of the Feed Lanes (R117, R119, R178, R180, R181). -/

namespace Sys2Proof.Machine

/-! ### CONFIGURE_LANE (R117) -/

def marksInRange (high low gap : Nat) : Bool :=
  decide (1 ≤ low) && decide (low < high) && decide (high ≤ 63) && decide (1 ≤ gap) && decide (gap ≤ 100)

def runConfigureLane (ps : List Byte) (p : Part) : Served :=
  match laneNumber (byteAt ps 0), choiceFlag (byteAt ps 1) with
  | some l, some on =>
    if marksInRange (field ps 2 1) (field ps 3 1) (field ps 4 1) then
      .done (configureLane l on (field ps 2 1) (field ps 3 1) (field ps 4 1) p) []
    else .refuse p .range
  | _, _ => .refuse p .range

/-! ### READ_LANE (R119) -/

def laneCounterBytes (c : LaneCounters) : List Byte :=
  be 4 c.frames ++ be 4 c.unexpectedKind ++ be 4 c.headerError ++ be 4 c.checkError ++ be 4 c.frameTimeout ++
    be 4 c.poolEmpty ++ be 4 c.overrun ++ be 4 c.abandoned ++ be 4 c.holdSent ++ be 4 c.goSent

def laneResults (p : Part) (l : LaneId) : List Byte :=
  let x := p.lane l
  be 1 l.val ++ flag x.enabled ++ be 1 x.receiverState ++ flag x.loopback ++ be 1 (p.lineStatus l) ++
    be 1 x.flow.code ++ opt (fun k => be 1 (FlowKind.code k)) x.lastFlow ++ be 2 x.queue.length ++ be 2 x.peak ++
    be 1 x.highMark ++ be 1 x.lowMark ++ be 1 x.gapMs ++ flag x.deltas.carrier ++ flag x.deltas.overrun ++
    flag x.deltas.hold ++ laneCounterBytes x.counters

/-- What READ_LANE clears on the lane. -/
def Lane.read (x : Lane) : Lane := { x with deltas := ⟨false, false, false⟩, peak := x.queue.length }

/-- LANE is cleared when every lane's delta set is empty (R116). -/
def clearLaneCause (p : Part) : Part :=
  if p.lanes.toList.any (fun x => x.deltas.any) then p else clearCause .lane p

def runReadLane (ps : List Byte) (p : Part) : Served :=
  match laneNumber (byteAt ps 0) with
  | none => .refuse p .range
  | some l => .done (clearLaneCause (p.onLane l Lane.read)) (laneResults p l)

/-! ### SET_LOOPBACK (R178) -/

def runSetLoopback (ps : List Byte) (p : Part) : Served :=
  match laneNumber (byteAt ps 0), choiceFlag (byteAt ps 1) with
  | some l, some on =>
    let q := setLoopback l on p
    .done q (be 1 l.val ++ flag (q.lane l).loopback ++ be 1 (q.lineStatus l))
  | _, _ => .refuse p .range

/-! ### INJECT_FRAME (R180, R181) -/

/-- The outcome's code; MALFORMED_ENVELOPE is 3. -/
def Taken.code : Taken → Nat
  | .taken => 0
  | .poolEmpty => 1
  | .overrun => 2

/-- A body is written whole into the claimed buffer. -/
def writeBody (n : Option Nat) (body : List Byte) (p : Part) : Part :=
  match n with
  | none => p
  | some n => p.onStore (fun s => body.foldl (fun s b => s.write n b) s)

/-- The reply's results: the outcome, the lane's fill after the request, the buffer claimed (log 16). -/
def injectResults (code fill : Nat) (n : Option Nat) : List Byte := be 1 code ++ be 2 fill ++ opt (be 2) n

/-- An injected frame is taken. -/
def inject (l : LaneId) (body : List Byte) (p : Part) : Served :=
  let c := claim p
  let q := endGood l c.2 body.length (writeBody c.2 body c.1)
  .done q (injectResults ((p.lane l).outcome c.2).code (q.lane l).queue.length c.2)

def runInject (ps : List Byte) (p : Part) : Served :=
  match laneNumber (byteAt ps 0) with
  | none => .refuse p .range
  | some l =>
    if (p.lane l).loopback = false ∨ (p.lane l).enabled = false then .refuse p .state
    else if 288 < (ps.drop 3).length ∨ field ps 1 2 ≠ (ps.drop 3).length then
      .done p (injectResults 3 (p.lane l).queue.length none)
    else inject l (ps.drop 3) p

/-! ### Meanings -/

/-- CONFIGURE_LANE (R117, R118). -/
def execConfigureLane (s : State) : Host.Outcome State Fault Refusal := State.runRequest (request 0x40 runConfigureLane) s

/-- READ_LANE (R119). -/
def execReadLane (s : State) : Host.Outcome State Fault Refusal := State.runRequest (request 0x41 runReadLane) s

/-- SET_LOOPBACK (R178, R179). -/
def execSetLoopback (s : State) : Host.Outcome State Fault Refusal := State.runRequest (request 0x60 runSetLoopback) s

/-- INJECT_FRAME (R180, R181). -/
def execInjectFrame (s : State) : Host.Outcome State Fault Refusal := State.runRequest (request 0x61 runInject) s

end Sys2Proof.Machine
end

