-- ==== Sys2Proof/Machine/Links.lean ====
section
/-! DEFINITION. The return direction of the Set Link (R145, R146), the end of a record (R143), the Control Link receiver
(R156) and the end of a message (R163). -/

namespace Sys2Proof.Machine

/-! ### The return direction -/

def Egress.returnError (e : Egress) : Egress :=
  { e with counters := { e.counters with returnErrors := bump e.counters.returnErrors } }

/-- A PAUSE is taken: a pause already present stands (R146). -/
def takePause (p : Part) : Part :=
  match p.egress.pausedAt with
  | some _ => p
  | none => p.onEgress (fun e => { e with pausedAt := some p.clock })

/-- A RESUME is taken (R146). -/
def takeResume (p : Part) : Part :=
  match p.egress.pausedAt with
  | none => p
  | some _ => startRecord (p.onEgress (fun e => { e with pausedAt := none }))

def returnEvent (p : Part) : RxEvent → Part
  | .tooLong | .wrongKind | .badCheck => p.onEgress Egress.returnError
  | .started _ | .bodyByte _ => p
  | .whole kind _ => if kind = kindPause then takePause p else takeResume p

/-- A byte arrives on SET_RX; the gap limit is 2 ms. -/
def returnByte (b : Byte) (p : Part) : Part :=
  if p.pins.isolate then p
  else
    let r := Rx.take returnLimits p.clock 2000000 b p.egress.rx
    r.2.foldl returnEvent (p.onEgress (fun e => { e with rx := r.1 }))

/-- The gap expiry of the return receiver; an envelope being stepped over has been counted (log 14). -/
def returnGap (p : Part) : Part :=
  if p.egress.rx.gapDue p.clock then
    p.onEgress (fun e =>
      let y := if e.rx.skipping then e else e.returnError
      { y with rx := y.rx.hunt })
  else p

/-- The pause limit expiry. -/
def pauseLimitExpiry (p : Part) : Part := if p.pauseDue then overridePause p else p

/-! ### The end of a record (R143) -/

/-- The last byte of the record in flight has been sent: it ends, the place it frees is used, and the next starts. DESIGN
CHOICE, safe (log 39): the release of step 5 comes before the choice of step 6, and while a realignment runs the choice
comes before the emptying goes on. -/
def recordEnd (p : Part) : Part :=
  match p.egress.inFlight with
  | none => p
  | some f =>
    match f.kind, p.egress.releaseQueue, p.egress.stragglers with
    | .set, r :: _, _ => startRecord (realignOn (attemptRelease (endSet r p)))
    | .strag, _, t :: _ => startRecord (endStrag t p)
    | .set, [], _ => p
    | .strag, _, [] => p

/-! ### The Control Link -/

def Control.envelopeError (c : Control) : Control := { c with envelopeErrors := bump c.envelopeErrors }

/-- A REQ envelope with a good check: a request, or too short to be one. -/
def takeEnvelope (body : List Byte) (p : Part) : Part :=
  match body with
  | tag :: code :: params => takeRequest tag code params p
  | _ => p.onControl Control.envelopeError

def controlEvent (p : Part) : RxEvent → Part
  | .tooLong | .wrongKind | .badCheck => p.onControl Control.envelopeError
  | .started _ | .bodyByte _ => p
  | .whole _ body => takeEnvelope body p

/-- A byte arrives on CTL_RX; the gap limit is 2 ms. -/
def controlByte (b : Byte) (p : Part) : Part :=
  if p.pins.isolate then p
  else
    let r := Rx.take controlLimits p.clock 2000000 b p.control.rx
    r.2.foldl controlEvent (p.onControl (fun c => { c with rx := r.1 }))

/-- The gap expiry of the Control Link receiver; an envelope being stepped over has been counted (log 14). -/
def controlGap (p : Part) : Part :=
  if p.control.rx.gapDue p.clock then
    p.onControl (fun c =>
      let y := if c.rx.skipping then c else c.envelopeError
      { y with rx := y.rx.hunt })
  else p

/-- What leaves when a message's last byte has been sent: its entry, or the refusal slot's reply. -/
def Control.sent (c : Control) (src : MessageSource) : Control :=
  match src with
  | .entry => { c with inFlight := none, queue := dropReplied c.queue }
  | .refusal => { c with inFlight := none, refusal := none }
  | .notice | .detached => { c with inFlight := none }

/-- The last byte of the message in flight has been sent, and the arbiter chooses again. -/
def messageEnd (p : Part) : Part :=
  match p.control.inFlight with
  | none => p
  | some m => startMessage (p.onControl (fun c => c.sent m.source))

end Sys2Proof.Machine
end

