-- ==== Sys2Proof/Machine/LinkEvents.lean ====
section
/-! DEFINITION. The meanings of the Set Link and Control Link events. -/

namespace Sys2Proof.Machine

/-- RECORD_END (R143). -/
def execRecordEnd (s : State) : Host.Outcome State Fault Refusal := State.event (Part.live recordEnd) s

/-- PAUSE: the byte that ends a PAUSE envelope (R145, R146; log 3). -/
def execPause (b : Byte) (s : State) : Host.Outcome State Fault Refusal := State.event (Part.live (returnByte b)) s

/-- RESUME: the byte that ends a RESUME envelope (R145, R146; log 3). -/
def execResume (b : Byte) (s : State) : Host.Outcome State Fault Refusal := State.event (Part.live (returnByte b)) s

/-- RETURN_ENVELOPE_ERROR: the byte that gives a return envelope up (R145; log 3). -/
def execReturnEnvelopeError (b : Byte) (s : State) : Host.Outcome State Fault Refusal :=
  State.event (Part.live (returnByte b)) s

/-- RETURN_LINK_BYTE: any other byte on SET_RX (R145; log 3). -/
def execReturnLinkByte (b : Byte) (s : State) : Host.Outcome State Fault Refusal :=
  State.event (Part.live (returnByte b)) s

/-- RETURN_GAP_EXPIRY (R145). -/
def execReturnGapExpiry (s : State) : Host.Outcome State Fault Refusal := State.event (Part.live returnGap) s

/-- PAUSE_LIMIT_EXPIRY (R147). -/
def execPauseLimitExpiry (s : State) : Host.Outcome State Fault Refusal := State.event (Part.live pauseLimitExpiry) s

/-- REQUEST_ARRIVAL: the byte that ends a REQ envelope (R156, R157; log 3). -/
def execRequestArrival (b : Byte) (s : State) : Host.Outcome State Fault Refusal :=
  State.event (Part.live (controlByte b)) s

/-- CONTROL_ENVELOPE_ERROR: the byte that gives a control envelope up (R156; log 3). -/
def execControlEnvelopeError (b : Byte) (s : State) : Host.Outcome State Fault Refusal :=
  State.event (Part.live (controlByte b)) s

/-- CONTROL_LINK_BYTE: any other byte on CTL_RX (R156; log 3). -/
def execControlLinkByte (b : Byte) (s : State) : Host.Outcome State Fault Refusal :=
  State.event (Part.live (controlByte b)) s

/-- CONTROL_GAP_EXPIRY (R156). -/
def execControlGapExpiry (s : State) : Host.Outcome State Fault Refusal := State.event (Part.live controlGap) s

/-- MESSAGE_END (R163); a message in flight runs to its end while RESET_N is low (R1). -/
def execMessageEnd (s : State) : Host.Outcome State Fault Refusal := State.event messageEnd s

end Sys2Proof.Machine
end

