-- ==== Sys2Proof/Machine/PinEvents.lean ====
section
/-! DEFINITION. The meanings of the pin commands: supply, RESET_N, ISOLATE, CARRIER. POWER_ON, PIN and RESET_N_ASSERT
are met in every condition; an ISOLATE or CARRIER level is only recorded while RESET_N is low (R1, log 20). POWER_ON and
PIN empty every block, so no filing reaches the Stream Table before them. -/

namespace Sys2Proof.Machine

/-- POWER_ON (R2 and each chapter's reset rule). -/
def execPowerOn (straps : Straps) (s : State) : Host.Outcome State Fault Refusal := State.run (powerOn straps) s

/-- RESET_N_ASSERT (R1). -/
def execResetNAssert (s : State) : Host.Outcome State Fault Refusal := State.event resetNAssert s

/-- PIN (R1, R2 and each chapter's reset rule; log 19). -/
def execPin (straps : Straps) (s : State) : Host.Outcome State Fault Refusal := State.run (pin straps) s

/-- ISOLATE_ASSERTED (R51, R78, R121, R149, R167, R177). -/
def execIsolateAsserted (s : State) : Host.Outcome State Fault Refusal := State.event isolateAsserted s

/-- ISOLATE_REMOVED (R79, R121, R150, R168, R177). -/
def execIsolateRemoved (s : State) : Host.Outcome State Fault Refusal := State.event isolateRemoved s

/-- CARRIER_CHANGE (R115). -/
def execCarrierChange (l : LaneId) (high : Bool) (s : State) : Host.Outcome State Fault Refusal :=
  State.event (carrierChange l high) s

end Sys2Proof.Machine
end

