-- ==== Sys2Proof/Machine/StoreRequests.lean ====
section
/-! DEFINITION. The requests of the Payload Store and of the Set Link (R132, R133, R148, R152, R153, R182). -/

namespace Sys2Proof.Machine

/-! ### READ_POOL (R132) -/

def sweepBytes (w : Sweep) : List Byte :=
  flag w.running ++ be 2 w.next ++ be 2 w.tested ++ be 2 w.passed ++ be 2 w.retired ++ be 2 w.skipped

/-- The eight per-state counts, FREE first, in the order of R123. -/
def stateCounts (s : Store) : List Nat :=
  [s.freeCount, s.countState .filling, s.countState .queued, s.countState .filed, s.countState .released,
    s.countState .straggling, s.countState .sweeping, s.countState .retired]

def poolResults (s : Store) : List Byte :=
  be 2 s.freeCount ++ be 2 s.lowestFree ++ (stateCounts s).flatMap (be 2) ++ be 2 s.retiredCount ++ be 2 s.lowMark ++
    flag s.below ++ be 4 s.corrections ++ be 4 s.damagedReads ++ be 4 s.claimsFailed ++ sweepBytes s.sweep

def runReadPool (_ : List Byte) (p : Part) : Served :=
  .done (clearCause .pool (p.onStore (fun s => { s with lowestFree := s.freeCount }))) (poolResults p.store)

/-! ### SET_POOL_MARK (R133) -/

def runSetPoolMark (ps : List Byte) (p : Part) : Served :=
  if 16384 < field ps 0 2 then .refuse p .range
  else .done (evalLowMark (p.onStore (fun s => { s with lowMark := field ps 0 2 }))) []

/-! ### SWEEP_STORE (R182) -/

/-- The sweep starts; it proceeds once the reply has been formed. -/
def runSweep (_ : List Byte) (p : Part) : Served :=
  if p.store.sweep.running then .refuse p .state
  else .done (p.onStore (fun s => { s with sweep := ⟨true, 0, none, 0, 0, 0, 0⟩ })) (be 2 p.store.retiredCount)

/-! ### CONFIGURE_EGRESS (R152), HOLD_EGRESS and RESUME_EGRESS (R148) -/

/-- A pause that has outlasted a new limit is overridden at once (R152). -/
def overrideIfDue (p : Part) : Part := if p.pauseDue then overridePause p else p

def runConfigureEgress (ps : List Byte) (p : Part) : Served :=
  if 60000 < field ps 0 2 then .refuse p .range
  else .done (overrideIfDue (p.onEgress (fun e => { e with pauseLimit := field ps 0 2 }))) []

def runHoldEgress (_ : List Byte) (p : Part) : Served := .done (p.onEgress (fun e => { e with hostHold := true })) []

def runResumeEgress (_ : List Byte) (p : Part) : Served :=
  .done (startRecord (p.onEgress (fun e => { e with hostHold := false }))) []

/-! ### READ_EGRESS (R153) -/

/-- The record in flight: SET with its label, or STRAG with its stream number and own label. -/
def inFlightBytes (e : Egress) : List Byte :=
  match e.inFlight, e.releaseQueue, e.stragglers with
  | some ⟨.set, _⟩, r :: _, _ => be 1 1 ++ be 1 RecordKind.set.code ++ labelBytes r.label
  | some ⟨.strag, _⟩, _, t :: _ => be 1 1 ++ be 1 RecordKind.strag.code ++ be 4 t.number ++ labelBytes t.label
  | _, _, _ => be 1 0

/-- The milliseconds a consumer pause has lasted (R153). DESIGN CHOICE, unsafe (log 44): a part millisecond is dropped. -/
def pauseMs (now began : Nat) : Nat := min ((now - began) / 1000000) counterMax

def egressCounterBytes (c : EgressCounters) : List Byte :=
  be 4 c.setsSent ++ be 4 c.stragglersSent ++ be 4 c.stragglerOverflow ++ be 4 c.pauseOverrides ++ be 4 c.resent ++
    be 4 c.returnErrors

/-- The results of READ_EGRESS. An absent consumer pause is its presence byte alone; the oldest and the newest label have
a presence byte each (DESIGN CHOICE, unsafe, log 16). -/
def egressResults (p : Part) : List Byte :=
  let e := p.egress
  be 1 p.transmitter.code ++ inFlightBytes e ++ flag e.resendPending ++
    opt (fun t => be 4 (pauseMs p.clock t)) e.pausedAt ++ flag e.hostHold ++ flag p.pins.isolate ++ be 2 e.pauseLimit ++
    be 2 e.releaseQueue.length ++ opt labelBytes (e.releaseQueue.head?.map SetRecord.label) ++
    opt labelBytes (e.releaseQueue.getLast?.map SetRecord.label) ++ be 2 e.stragglers.length ++ be 1 e.arbiter ++
    egressCounterBytes e.counters ++ be 4 p.engine.counters.dropped ++ be 4 p.engine.counters.reinitDropped ++
    be 4 p.engine.counters.skipped

def runReadEgress (_ : List Byte) (p : Part) : Served := .done (clearCause .egress p) (egressResults p)

/-! ### Meanings -/

/-- READ_POOL (R132). -/
def execReadPool (s : State) : Host.Outcome State Fault Refusal := State.runRequest (request 0x48 runReadPool) s

/-- SET_POOL_MARK (R133). -/
def execSetPoolMark (s : State) : Host.Outcome State Fault Refusal := State.runRequest (request 0x49 runSetPoolMark) s

/-- SWEEP_STORE (R182): the reply is formed, and the sweep then visits its first buffer. -/
def execSweepStore (s : State) : Host.Outcome State Fault Refusal :=
  State.runRequest (Part.live (serve 0x62 runSweep sweepOn)) s

/-- CONFIGURE_EGRESS (R152). -/
def execConfigureEgress (s : State) : Host.Outcome State Fault Refusal :=
  State.runRequest (request 0x50 runConfigureEgress) s

/-- HOLD_EGRESS (R148). -/
def execHoldEgress (s : State) : Host.Outcome State Fault Refusal := State.runRequest (request 0x51 runHoldEgress) s

/-- RESUME_EGRESS (R148). -/
def execResumeEgress (s : State) : Host.Outcome State Fault Refusal := State.runRequest (request 0x52 runResumeEgress) s

/-- READ_EGRESS (R153). -/
def execReadEgress (s : State) : Host.Outcome State Fault Refusal := State.runRequest (request 0x53 runReadEgress) s

end Sys2Proof.Machine
end

