-- ==== Sys2Proof/Machine/StreamRequests.lean ====
section
/-! DEFINITION. The requests of the Stream Table (R31 to R35, R44, R45, R48). -/

namespace Sys2Proof.Machine

/-! ### REGISTER_STREAM and ALTER_STREAM (R31, R32) -/

def layoutAt (ps : List Byte) (off : Nat) : Layout := ⟨field ps off 1, field ps (off + 1) 1, field ps (off + 2) 1⟩

/-- A stream as registration makes it (R27). -/
def Stream.registered (number rate : Nat) (layout : Layout) (k : Fin 4) : Stream where
  state := .armed
  number := number
  rate := rate
  layout := layout
  waitClass := k
  missCount := 0
  refCount := 0
  lastFiled := none
  summary := ⟨none, 0⟩
  counters := ⟨0, 0, 0, 0, 0, 0, 0⟩

/-- The wait class of a REGISTER_STREAM: 0 when omitted; none above 3. -/
def registerClass (ps : List Byte) : Option (Fin 4) := if ps.length = 11 then classNumber (byteAt ps 10) else some 0

def registerInRange (nominal : Nat) (ps : List Byte) : Bool :=
  decide (indexParam ps ≤ 511) && decide (field ps 2 4 ≠ 0) && decide (field ps 2 4 ≠ 4294967295) &&
    permittedRate nominal (field ps 6 1) && (layoutAt ps 7).inRange

/-- Another entry holds the stream number, or the indexed entry is not VACANT. -/
def StreamTable.occupied (t : StreamTable) (i n : Nat) : Bool :=
  (t.slot i).stream.isSome || (findNumber n t.slots).isSome

def runRegister (ps : List Byte) (p : Part) : Served :=
  match registerClass ps with
  | none => .refuse p .range
  | some k =>
    let i := indexParam ps
    let n := field ps 2 4
    let r := field ps 6 1
    if registerInRange p.nominal ps = false then .refuse p .range
    else if p.streams.occupied i n then .refuse p .occupied
    else if comparable r p.fo = false then .refuse p .conflict
    else
      .done (p.onStreams (fun t => t.setSlot i ⟨some (Stream.registered n r (layoutAt ps 7) k), (t.slot i).mark⟩))
        (be 2 i ++ be 1 StreamState.armed.code)

/-- The wait class of an ALTER_STREAM where its length carries one; the outer none is a class above 3. -/
def alterClass (ps : List Byte) : Option (Option (Fin 4)) :=
  if ps.length = 3 ∨ ps.length = 6 then (classNumber (byteAt ps 2)).map some else some none

/-- The layout of an ALTER_STREAM where its length carries one; the outer none is a count out of range. -/
def alterLayout (ps : List Byte) : Option (Option Layout) :=
  if ps.length = 5 then if (layoutAt ps 2).inRange then some (some (layoutAt ps 2)) else none
  else if ps.length = 6 then if (layoutAt ps 3).inRange then some (some (layoutAt ps 3)) else none
  else some none

/-- Each part present replaces the current value. -/
def Stream.altered (k : Option (Fin 4)) (y : Option Layout) (st : Stream) : Stream :=
  { st with waitClass := k.getD st.waitClass, layout := y.getD st.layout }

def runAlter (ps : List Byte) (p : Part) : Served :=
  match alterClass ps, alterLayout ps with
  | some k, some y =>
    let i := indexParam ps
    if 511 < i then .refuse p .range
    else
      match p.stream i with
      | none => .refuse p .state
      | some st =>
        if st.state = .retiring then .refuse p .state
        else .done (p.onStreams (StreamTable.onStream i (Stream.altered k y))) []
  | _, _ => .refuse p .range

/-! ### SUSPEND_STREAM, RESUME_STREAM, RETIRE_STREAM (R33 to R35) -/

def runSuspend (ps : List Byte) (p : Part) : Served :=
  let i := indexParam ps
  if 511 < i then .refuse p .range
  else
    match p.stream i with
    | none => .refuse p .state
    | some st =>
      match st.state with
      | .armed | .live | .stale => .done (withdrawIndex i (putMarked i (some { st with state := .suspended }) p)) []
      | .suspended | .retiring => .refuse p .state

def runResume (ps : List Byte) (p : Part) : Served :=
  let i := indexParam ps
  if 511 < i then .refuse p .range
  else
    match p.stream i with
    | none => .refuse p .state
    | some st =>
      if st.state = .suspended then
        .done (p.onStreams (StreamTable.onStream i (fun x => { x with state := .armed, missCount := 0 }))) []
      else .refuse p .state

def runRetire (ps : List Byte) (p : Part) : Served :=
  let i := indexParam ps
  if 511 < i then .refuse p .range
  else
    match p.stream i with
    | none => .refuse p .state
    | some st =>
      if st.state = .retiring then .refuse p .state
      else if st.refCount = 0 then .done (putMarked i none p) (be 1 0 ++ be 2 0)
      else
        .done (withdrawIndex i (p.onStreams (StreamTable.onStream i (fun x => { x with state := .retiring }))))
          (be 1 StreamState.retiring.code ++ be 2 st.refCount)

/-! ### READ_STREAM (R44) -/

def streamCounterBytes (c : StreamCounters) : List Byte :=
  be 4 c.filed ++ be 4 c.tardy ++ be 4 c.late ++ be 4 c.duplicate ++ be 4 c.decimated ++ be 4 c.layoutMismatch ++
    be 4 c.misses

/-- The results of READ_STREAM; the set of condition flags is one byte (log 16). -/
def streamResults (i : Nat) (st : Stream) (mark : Bool) : List Byte :=
  be 2 i ++ be 1 st.state.code ++ be 4 st.number ++ be 1 st.rate ++ be 1 st.layout.p ++ be 1 st.layout.a ++
    be 1 st.layout.d ++ be 1 st.waitClass.val ++ be 1 st.missCount ++ be 2 st.refCount ++ opt labelBytes st.lastFiled ++
    opt (be 1) st.summary.quality ++ be 1 st.summary.flags.toNat ++ streamCounterBytes st.counters ++ flag mark

def runReadStream (ps : List Byte) (p : Part) : Served :=
  let i := indexParam ps
  if 511 < i then .refuse p .range
  else
    match p.stream i with
    | none => .refuse p .absent
    | some st =>
      .done (p.onStreams (StreamTable.onStream i (fun x => { x with summary := ⟨none, 0⟩ })))
        (streamResults i st (p.streams.slot i).mark)

/-! ### READ_CHANGES (R45) -/

/-- The entries whose marks are set, in ascending index. -/
def StreamTable.marked (t : StreamTable) : List (Nat × Slot) := t.slots.filter (fun e => e.2.mark)

/-- The batch of READ_CHANGES: the lowest 32. -/
def StreamTable.batch (t : StreamTable) : List (Nat × Slot) := t.marked.take 32

/-- The marks of some indices are cleared. -/
def StreamTable.clearMarks (es : List (Nat × Slot)) (t : StreamTable) : StreamTable :=
  es.foldl (fun t e => t.setSlot e.1 ⟨e.2.stream, false⟩) t

def runReadChanges (_ : List Byte) (p : Part) : Served :=
  let batch := p.streams.batch
  let left := p.streams.marked.length - batch.length
  let q := p.onStreams (StreamTable.clearMarks batch)
  .done (if left = 0 then clearCause .stream q else q)
    (counted (fun e => be 2 e.1 ++ be 1 e.2.code) batch ++ be 2 left)

/-! ### READ_STRANGERS (R48) -/

def strangerBytes (x : Stranger) : List Byte := be 4 x.number ++ be 1 x.lane.val ++ labelBytes x.label ++ be 2 x.seen

def runReadStrangers (_ : List Byte) (p : Part) : Served :=
  .done (clearCause .stranger (p.onStreams (fun t => { t with strangers := [] })))
    (counted strangerBytes p.streams.strangers ++ be 4 p.streams.unlisted)

/-! ### Meanings -/

/-- REGISTER_STREAM (R31). -/
def execRegisterStream (s : State) : Host.Outcome State Fault Refusal := State.runRequest (request 0x20 runRegister) s

/-- ALTER_STREAM (R32). -/
def execAlterStream (s : State) : Host.Outcome State Fault Refusal := State.runRequest (request 0x21 runAlter) s

/-- SUSPEND_STREAM (R33). -/
def execSuspendStream (s : State) : Host.Outcome State Fault Refusal := State.runRequest (request 0x22 runSuspend) s

/-- RESUME_STREAM (R34). -/
def execResumeStream (s : State) : Host.Outcome State Fault Refusal := State.runRequest (request 0x23 runResume) s

/-- RETIRE_STREAM (R35). -/
def execRetireStream (s : State) : Host.Outcome State Fault Refusal := State.runRequest (request 0x24 runRetire) s

/-- READ_STREAM (R44). -/
def execReadStream (s : State) : Host.Outcome State Fault Refusal := State.runRequest (request 0x25 runReadStream) s

/-- READ_CHANGES (R45). -/
def execReadChanges (s : State) : Host.Outcome State Fault Refusal := State.runRequest (request 0x26 runReadChanges) s

/-- READ_STRANGERS (R48). -/
def execReadStrangers (s : State) : Host.Outcome State Fault Refusal := State.runRequest (request 0x27 runReadStrangers) s

end Sys2Proof.Machine
end

