-- ==== Sys2Proof/Machine/TimeEvents.lean ====
section
/-! DEFINITION. The meanings of the Reference Port, Time Base and Epoch Table events. -/

namespace Sys2Proof.Machine

/-- PULSE (R7, R9). -/
def execPulse (r : RefPort) (s : State) : Host.Outcome State Fault Refusal := State.event (Part.live (pulse r)) s

/-- TIME_MESSAGE: the byte that ends a TIME envelope (R6; log 3). -/
def execTimeMessage (r : RefPort) (b : Byte) (s : State) : Host.Outcome State Fault Refusal :=
  State.event (Part.live (tmsgByte r b)) s

/-- TIME_MESSAGE_ERROR: the byte that gives a TMSG envelope up (R6; log 3). -/
def execTimeMessageError (r : RefPort) (b : Byte) (s : State) : Host.Outcome State Fault Refusal :=
  State.event (Part.live (tmsgByte r b)) s

/-- TMSG_BYTE: any other byte on a TMSG input (R6; log 3). -/
def execTmsgByte (r : RefPort) (b : Byte) (s : State) : Host.Outcome State Fault Refusal :=
  State.event (Part.live (tmsgByte r b)) s

/-- TMSG_GAP_EXPIRY (R6). -/
def execTmsgGapExpiry (r : RefPort) (s : State) : Host.Outcome State Fault Refusal :=
  State.event (Part.live (tmsgGap r)) s

/-- MISSING_PULSE_EXPIRY (R8). -/
def execMissingPulseExpiry (r : RefPort) (s : State) : Host.Outcome State Fault Refusal :=
  State.event (Part.live (missingPulse r)) s

/-- SILENCE_EXPIRY (R8). -/
def execSilenceExpiry (r : RefPort) (s : State) : Host.Outcome State Fault Refusal :=
  State.event (Part.live (silence r)) s

/-- HOLDOVER_SECOND (R14). -/
def execHoldoverSecond (s : State) : Host.Outcome State Fault Refusal := State.event (Part.live holdoverSecond) s

/-- SLEW_END (R17). -/
def execSlewEnd (s : State) : Host.Outcome State Fault Refusal := State.event (Part.live slewEnd) s

/-- STROBE (R19, R57). -/
def execStrobe (s : State) : Host.Outcome State Fault Refusal := State.event (Part.live strobe) s

/-- DEADLINE_EXPIRY (R20, R63). -/
def execDeadlineExpiry (l : Label) (s : State) : Host.Outcome State Fault Refusal :=
  State.event (Part.live (deadlineExpiry l)) s

end Sys2Proof.Machine
end

