-- ==== Sys2Proof/Machine/TimeRequests.lean ====
section
/-! DEFINITION. The requests of the Time Base (R22 to R24). -/

namespace Sys2Proof.Machine

/-! ### READ_TIME (R22) -/

def partTimeBytes (t : PartTime) : List Byte := be 4 t.second ++ be 4 t.nanos

def portCode (r : RefPort) : Nat := RefPort.code r

def refConfigBytes (c : RefConfig) : List Byte :=
  be 1 c.qualifyCount ++ be 2 c.pulseTolerance ++ be 4 c.holdoverLimit ++ be 4 c.stepThreshold ++
    be 1 (portCode c.preferred) ++ flag c.failover

def deltaBytes (d : TimeDeltas) : List Byte := flag d.a ++ flag d.b ++ flag d.state ++ flag d.stepped

def reportBytes (r : SourceReport) : List Byte := flag r.locked ++ be 1 r.quality

def portBytes (p : Part) (r : RefPort) : List Byte :=
  let x := p.port r
  be 1 x.state.code ++ be 1 x.goodCount ++ opt (be 4) x.lastAnnounced ++ opt reportBytes x.report ++
    opt (beInt 8) (p.offset r) ++ opt (fun b => be 1 (BadReason.code b)) x.lastBad ++ be 4 x.goodSeconds ++
    be 4 x.badSeconds ++ be 4 x.missingPulses ++ be 4 x.messageErrors

/-- Slew remaining in whole ns (log 13). -/
def TimeBase.slewNs (t : TimeBase) : Int := t.slew.tdiv 20000

def timeResults (p : Part) : List Byte :=
  let t := p.timeBase
  be 1 t.state.code ++ opt (fun r => be 1 (portCode r)) t.selected ++ opt partTimeBytes t.partTime ++
    opt (beInt 8) t.offset ++ beInt 8 t.slewNs ++ be 4 t.holdoverSeconds ++ deltaBytes t.deltas ++
    refConfigBytes t.cfg ++ portBytes p .A ++ portBytes p .B

def runReadTime (_ : List Byte) (p : Part) : Served :=
  .done (clearCause .time (p.onTimeBase (fun t => { t with deltas := ⟨false, false, false, false⟩ }))) (timeResults p)

/-! ### CONFIGURE_REFERENCE (R23) and SELECT_REFERENCE (R24) -/

def RefConfig.inRange (c : RefConfig) : Bool :=
  decide (2 ≤ c.qualifyCount) && decide (c.qualifyCount ≤ 16) && decide (1 ≤ c.pulseTolerance) &&
    decide (c.pulseTolerance ≤ 1000) && decide (1 ≤ c.holdoverLimit) && decide (c.holdoverLimit ≤ 86400) &&
    decide (10 ≤ c.stepThreshold) && decide (c.stepThreshold ≤ 1000000)

/-- The parameters as they arrive. -/
def refConfigOf (ps : List Byte) : Option RefConfig :=
  match choicePort (byteAt ps 11), choiceFlag (byteAt ps 12) with
  | some r, some f => some ⟨field ps 0 1, field ps 1 2, field ps 3 4, field ps 7 4, r, f⟩
  | _, _ => none

def runConfigureReference (ps : List Byte) (p : Part) : Served :=
  match refConfigOf ps with
  | none => .refuse p .range
  | some c => if c.inRange then .done (configureReference c p) [] else .refuse p .range

def runSelectReference (ps : List Byte) (p : Part) : Served :=
  match choicePort (byteAt ps 0) with
  | none => .refuse p .range
  | some r => if p.qualified r then .done (selectReference r p) [] else .refuse p .unqualified

/-! ### Meanings -/

/-- READ_TIME (R22). -/
def execReadTime (s : State) : Host.Outcome State Fault Refusal := State.runRequest (request 0x10 runReadTime) s

/-- CONFIGURE_REFERENCE (R23). -/
def execConfigureReference (s : State) : Host.Outcome State Fault Refusal :=
  State.runRequest (request 0x11 runConfigureReference) s

/-- SELECT_REFERENCE (R24). -/
def execSelectReference (s : State) : Host.Outcome State Fault Refusal :=
  State.runRequest (request 0x12 runSelectReference) s

end Sys2Proof.Machine
end

