-- ==== Sys2Proof/Machine/WindowRequests.lean ====
section
/-! DEFINITION. The requests of the Epoch Table and of the Frame Sorter, and the end of a realignment (R72 to R77, R80,
R102). -/

namespace Sys2Proof.Machine

/-! ### READ_WINDOW (R80) -/

/-- The label a READ_WINDOW asks for. -/
def windowLabel (ps : List Byte) : Option Label := if ps.length = 6 then some ⟨field ps 0 4, field ps 4 2⟩ else none

def fourCounts (c : Four Nat) : List Byte := c.toList.flatMap (be 2)

def epochBytes (e : Epoch) : List Byte :=
  labelBytes e.label ++ be 1 e.state.code ++ be 1 e.openedBy.code ++ be 2 e.expected.length ++
    be 2 (e.expected.countP Expected.withdrawn) ++ be 2 e.members.length ++ be 2 (e.members.countP Member.tardy) ++
    be 2 (e.members.countP Member.extra) ++ fourCounts e.counts ++ opt (be 2) e.deadline

def alignConfigBytes (c : AlignConfig) : List Byte :=
  be 1 c.fo ++ fourCounts c.waits ++ be 2 c.tolerance ++ be 1 c.staleThreshold ++ be 1 c.voidPolicy.code ++
    flag c.forwarding

def windowCounterBytes (c : WindowCounters) : List Byte :=
  be 4 c.opened ++ be 4 c.released ++ be 4 c.dropped ++ be 4 c.skipped ++ be 4 c.suppressedVoid ++ be 4 c.flushed ++
    be 4 c.reinitReleased ++ be 4 c.reinitDropped ++ be 4 c.evictedEarly

/-- The results of READ_WINDOW. The oldest and the newest label have a presence byte each (DESIGN CHOICE, unsafe, log 16). -/
def windowResults (g : Engine) (e : Option Epoch) : List Byte :=
  be 1 g.mode.code ++ opt labelBytes g.strobe ++ opt labelBytes g.horizon ++ be 2 g.entries.length ++
    be 2 (g.entries.countP (fun x => x.state = .opened)) ++ be 2 (g.entries.countP (fun x => x.state = .due)) ++
    opt labelBytes (g.entries.head?.map Epoch.label) ++ opt labelBytes (g.entries.getLast?.map Epoch.label) ++
    opt epochBytes e ++ alignConfigBytes g.cfg ++ windowCounterBytes g.counters

def runReadWindow (ps : List Byte) (p : Part) : Served :=
  match windowLabel ps with
  | none => .done p (windowResults p.engine p.engine.entries.head?)
  | some l =>
    if p.fo ≤ l.tick then .refuse p .range
    else
      match p.epoch l with
      | none => .refuse p .absent
      | some e => .done p (windowResults p.engine (some e))

/-! ### READ_SORTER (R102) -/

def discardBytes (c : DiscardCounters) : List Byte :=
  be 4 c.noTime ++ be 4 c.reinit ++ be 4 c.malformed ++ be 4 c.stranger ++ be 4 c.suspended ++ be 4 c.retired ++
    be 4 c.layoutMismatch ++ be 4 c.offGrid ++ be 4 c.decimated ++ be 4 c.late ++ be 4 c.ahead ++ be 4 c.duplicate ++
    be 4 c.windowFull ++ be 4 c.noEpoch

def sorterResults (p : Part) : List Byte :=
  let x := p.sorter
  be 1 x.pointer.val ++ be 1 p.engine.mode.code ++ p.lanes.toList.flatMap (fun l => be 2 l.queue.length) ++
    be 4 x.sorted ++ be 4 x.filed ++ be 4 x.filedTardy ++ be 4 x.openedEarly ++ be 4 x.forwarded ++
    discardBytes x.discards

def runReadSorter (_ : List Byte) (p : Part) : Served := .done p (sorterResults p)

/-! ### Meanings -/

/-- CONFIGURE_ALIGNMENT (R72 to R75). -/
def execConfigureAlignment (s : State) : Host.Outcome State Fault Refusal :=
  State.runRequest (Part.live configureAlignment) s

/-- REALIGNMENT_COMPLETE (R75, R76). -/
def execRealignmentComplete (s : State) : Host.Outcome State Fault Refusal :=
  State.event (Part.live realignmentComplete) s

/-- FLUSH_WINDOW (R77). -/
def execFlushWindow (s : State) : Host.Outcome State Fault Refusal := State.runRequest (request 0x31 runFlush) s

/-- READ_WINDOW (R80). -/
def execReadWindow (s : State) : Host.Outcome State Fault Refusal := State.runRequest (request 0x32 runReadWindow) s

/-- READ_SORTER (R102). -/
def execReadSorter (s : State) : Host.Outcome State Fault Refusal := State.runRequest (request 0x38 runReadSorter) s

end Sys2Proof.Machine
end

