-- ==== Sys2Proof/Machine/Dispatch.lean ====
section
/-! DEFINITION. What each command does: one arm per constructor. -/

namespace Sys2Proof.Machine

def exec (i : Instr) (s : State) : Host.Outcome State Fault Refusal :=
  match i with
  | .powerOn straps => Sys2Proof.Machine.execPowerOn straps s
  | .resetNAssert => Sys2Proof.Machine.execResetNAssert s
  | .pin straps => Sys2Proof.Machine.execPin straps s
  | .isolateAsserted => Sys2Proof.Machine.execIsolateAsserted s
  | .isolateRemoved => Sys2Proof.Machine.execIsolateRemoved s
  | .carrierChange lane high => Sys2Proof.Machine.execCarrierChange lane high s
  | .pulse port => Sys2Proof.Machine.execPulse port s
  | .timeMessage port b => Sys2Proof.Machine.execTimeMessage port b s
  | .timeMessageError port b => Sys2Proof.Machine.execTimeMessageError port b s
  | .tmsgGapExpiry port => Sys2Proof.Machine.execTmsgGapExpiry port s
  | .missingPulseExpiry port => Sys2Proof.Machine.execMissingPulseExpiry port s
  | .silenceExpiry port => Sys2Proof.Machine.execSilenceExpiry port s
  | .holdoverSecond => Sys2Proof.Machine.execHoldoverSecond s
  | .slewEnd => Sys2Proof.Machine.execSlewEnd s
  | .strobe => Sys2Proof.Machine.execStrobe s
  | .deadlineExpiry label => Sys2Proof.Machine.execDeadlineExpiry label s
  | .sort => Sys2Proof.Machine.execSort s
  | .laneHeader lane b => Sys2Proof.Machine.execLaneHeader lane b s
  | .laneFrameEnd lane b => Sys2Proof.Machine.execLaneFrameEnd lane b s
  | .laneGapExpiry lane => Sys2Proof.Machine.execLaneGapExpiry lane s
  | .flowFrameEnd lane => Sys2Proof.Machine.execFlowFrameEnd lane s
  | .sweepVerdict pass => Sys2Proof.Machine.execSweepVerdict pass s
  | .recordEnd => Sys2Proof.Machine.execRecordEnd s
  | .pause b => Sys2Proof.Machine.execPause b s
  | .resume b => Sys2Proof.Machine.execResume b s
  | .returnEnvelopeError b => Sys2Proof.Machine.execReturnEnvelopeError b s
  | .returnGapExpiry => Sys2Proof.Machine.execReturnGapExpiry s
  | .pauseLimitExpiry => Sys2Proof.Machine.execPauseLimitExpiry s
  | .requestArrival b => Sys2Proof.Machine.execRequestArrival b s
  | .controlEnvelopeError b => Sys2Proof.Machine.execControlEnvelopeError b s
  | .controlGapExpiry => Sys2Proof.Machine.execControlGapExpiry s
  | .messageEnd => Sys2Proof.Machine.execMessageEnd s
  | .unknownRequest => Sys2Proof.Machine.execUnknownRequest s
  | .identify => Sys2Proof.Machine.execIdentify s
  | .restartFull => Sys2Proof.Machine.execRestartFull s
  | .restartAlignment => Sys2Proof.Machine.execRestartAlignment s
  | .readTime => Sys2Proof.Machine.execReadTime s
  | .configureReference => Sys2Proof.Machine.execConfigureReference s
  | .selectReference => Sys2Proof.Machine.execSelectReference s
  | .registerStream => Sys2Proof.Machine.execRegisterStream s
  | .alterStream => Sys2Proof.Machine.execAlterStream s
  | .suspendStream => Sys2Proof.Machine.execSuspendStream s
  | .resumeStream => Sys2Proof.Machine.execResumeStream s
  | .retireStream => Sys2Proof.Machine.execRetireStream s
  | .readStream => Sys2Proof.Machine.execReadStream s
  | .readChanges => Sys2Proof.Machine.execReadChanges s
  | .readStrangers => Sys2Proof.Machine.execReadStrangers s
  | .configureAlignment => Sys2Proof.Machine.execConfigureAlignment s
  | .realignmentComplete => Sys2Proof.Machine.execRealignmentComplete s
  | .flushWindow => Sys2Proof.Machine.execFlushWindow s
  | .readWindow => Sys2Proof.Machine.execReadWindow s
  | .readSorter => Sys2Proof.Machine.execReadSorter s
  | .configureLane => Sys2Proof.Machine.execConfigureLane s
  | .readLane => Sys2Proof.Machine.execReadLane s
  | .readPool => Sys2Proof.Machine.execReadPool s
  | .setPoolMark => Sys2Proof.Machine.execSetPoolMark s
  | .configureEgress => Sys2Proof.Machine.execConfigureEgress s
  | .holdEgress => Sys2Proof.Machine.execHoldEgress s
  | .resumeEgress => Sys2Proof.Machine.execResumeEgress s
  | .readEgress => Sys2Proof.Machine.execReadEgress s
  | .readAttention => Sys2Proof.Machine.execReadAttention s
  | .setAttentionMask => Sys2Proof.Machine.execSetAttentionMask s
  | .setLoopback => Sys2Proof.Machine.execSetLoopback s
  | .injectFrame => Sys2Proof.Machine.execInjectFrame s
  | .sweepStore => Sys2Proof.Machine.execSweepStore s
  | .laneByte lane b => Sys2Proof.Machine.execLaneByte lane b s
  | .controlLinkByte b => Sys2Proof.Machine.execControlLinkByte b s
  | .tmsgByte port b => Sys2Proof.Machine.execTmsgByte port b s
  | .returnLinkByte b => Sys2Proof.Machine.execReturnLinkByte b s

end Sys2Proof.Machine
end

