-- ==== Sys2Proof/Machine/Due.lean ====
section
/-! DEFINITION. The time-driven command that is due, in the fixed order of log 2. None is due while RESET_N is low (R1). -/

namespace Sys2Proof.Machine

/-- A command where its condition holds. -/
def dueIf (b : Bool) (i : Instr) : List Instr := if b then [i] else []

/-- The strobe that is due. -/
def dueStrobe (p : Part) : List Instr :=
  match p.strobeDue with
  | none => []
  | some _ => [.strobe]

/-- The deadline expiries that are due, in label order. -/
def dueDeadlines (p : Part) : List Instr := (p.engine.entries.filter p.expiryDue).map (fun e => .deadlineExpiry e.label)

/-- The gap expiries that are due. -/
def dueGaps (p : Part) : List Instr :=
  [0, 1, 2, 3].flatMap (fun l => dueIf ((p.lane l).rx.gapDue p.clock) (.laneGapExpiry l)) ++
    dueIf (p.egress.rx.gapDue p.clock) .returnGapExpiry ++ dueIf (p.control.rx.gapDue p.clock) .controlGapExpiry

/-- The expiries of the Reference Ports that are due. -/
def duePorts (p : Part) : List Instr :=
  dueIf (p.portA.missingDue p.clock) (.missingPulseExpiry .A) ++ dueIf (p.portB.missingDue p.clock) (.missingPulseExpiry .B) ++
    dueIf (p.portA.silenceDue p.clock) (.silenceExpiry .A) ++ dueIf (p.portB.silenceDue p.clock) (.silenceExpiry .B) ++
    dueIf (p.portA.rx.gapDue p.clock) (.tmsgGapExpiry .A) ++ dueIf (p.portB.rx.gapDue p.clock) (.tmsgGapExpiry .B)

/-- Everything that is due. -/
def dueAll (p : Part) : List Instr :=
  duePorts p ++ dueIf p.holdoverDue .holdoverSecond ++ dueIf p.slewEndDue .slewEnd ++ dueStrobe p ++ dueDeadlines p ++
    dueGaps p ++ dueIf p.pauseDue .pauseLimitExpiry

/-- The command that is due first. -/
def dueEvent (p : Part) : Option Instr := if p.pins.resetLow then none else (dueAll p).head?

end Sys2Proof.Machine
end

