-- ==== Sys2Proof/Machine/Step.lean ====
section
/-! DEFINITION. One step: the command at the front of the queue, or the time-driven command that is due, or the passing of
local oscillator time (log 1, 2). -/

namespace Sys2Proof.Machine

/-- What the machine does with no command waiting: the time-driven command that is due, or else time passes, and what was
under way between two events has come to its end (log 45, 46). -/
def idle (s : State) : Host.Outcome State Fault Refusal :=
  match dueEvent s.part with
  | some c => exec c s
  | none => .next { s with part := elapse s.part.settled }

/-- One step. -/
def step (s : State) : Host.Outcome State Fault Refusal :=
  match s.pending with
  | c :: rest => exec c { s with pending := rest }
  | [] => idle s

/-- The command a table word spells is put at the front of the queue; no word of this table spells one. -/
def State.withFetchWord (s : State) (nbits w : Nat) : State :=
  match decodeTableWord nbits w with
  | none => s
  | some c => { s with pending := c :: s.pending }

end Sys2Proof.Machine
end

