-- ==== Sys2Proof/Safety.lean ====
section
/-! DEFINITION. The vocabulary of the statements: what it is for a command to complete and for a request to be answered,
and the laws of the manual that every step keeps. -/

namespace Sys2Proof.Machine

/-! ### Completing and answering -/

/-- The command answers a next state whose part has the property, and the waiting commands stay. -/
def Completes (i : Instr) (s : State) (holds : Part → Prop) : Prop :=
  ∃ t, exec i s = .next t ∧ t.pending = s.pending ∧ holds t.part

/-- RESET_N is high, and no filing is on its way to the Stream Table: an event of a block acts on the part as it stands. -/
abbrev Part.Ready (p : Part) : Prop := p.pins.resetLow = false ∧ p.filing = none

/-- The executor runs `e`, a request of this code; no realignment holds it, and RESET_N is high. -/
abbrev Part.Runs (p : Part) (code : Nat) (e : RequestEntry) : Prop :=
  executing p.control.queue = some e ∧ e.code.toNat = code ∧ p.engine.realign = none ∧ p.pins.resetLow = false

/-- Between `p` and `q` the request `e` has been answered: its reply, the tag, the code, the status and for DONE the
results, waits in its entry (R162); or, under ISOLATE, it has left the queue unanswered (R167). The receiver, the
refusal slot and the envelope errors stay. -/
def Answered (e : RequestEntry) (st : Status) (results : List Byte) (p q : Part) : Prop :=
  (p.pins.isolate = false →
    q.control.queue = startNext (setReply ⟨p.control.stamp, replyBody e.tag e.code st results⟩ p.control.queue) ∧
      q.control.unanswered = p.control.unanswered) ∧
  (p.pins.isolate = true →
    q.control.queue = startNext (dropExecuting p.control.queue) ∧
      q.control.unanswered = bump p.control.unanswered) ∧
  q.control.rx = p.control.rx ∧ q.control.refusal = p.control.refusal ∧
  q.control.envelopeErrors = p.control.envelopeErrors

/-- A cause raised in `p` hands a notice: ISOLATE is not asserted, the cause was not pending, the mask enables it and the
gate is open (R173). -/
def Part.handsNotice (p : Part) (c : Cause) : Bool :=
  !p.pins.isolate && !p.attention.pending.has c && p.attention.mask.has c && p.attention.gateOpen

/-- Between `p` and `q` the cause `c` has been raised, once or more, and nothing else has reached the Attention Unit: it
is pending, the mask stays, the gate closes if a notice is handed, and ATTN follows R172 if the cause was not pending
before (R170, R173). -/
def Raised (c : Cause) (p q : Part) : Prop :=
  q.attention.pending = p.attention.pending.put true c ∧ q.attention.mask = p.attention.mask ∧
  q.attention.gateOpen = (p.attention.gateOpen && !p.handsNotice c) ∧
  q.attention.attn = (if p.attention.pending.has c then p.attention.attn else attnLevel q)

/-- Between `p` and `q` the cause `c` has been cleared, and ATTN follows R172: the mask and the gate stay (R171). -/
def Cleared (c : Cause) (p q : Part) : Prop :=
  q.attention = { p.attention with pending := p.attention.pending.put false c, attn := attnLevel q }

/-- What a free CTL_TX that nothing stops sends next at a rate: the reply formed earliest, or else the notice, or nothing
(R163). `c` is the Control Link before the choice and `d` after it. -/
def Chosen (rate : BitVec 2) (c d : Control) : Prop :=
  (∀ x, firstReply c.queue = some x → (∀ y, c.refusal = some y → x.stamp ≤ y.stamp) →
    d.inFlight = some ⟨.entry, envelope kindReply x.body, rate⟩ ∧ d.notice = c.notice) ∧
  (∀ y, c.refusal = some y → (∀ x, firstReply c.queue = some x → y.stamp < x.stamp) →
    d.inFlight = some ⟨.refusal, envelope kindReply y.body, rate⟩ ∧ d.notice = c.notice) ∧
  (∀ n, firstReply c.queue = none → c.refusal = none → c.notice = some n →
    d.inFlight = some ⟨.notice, envelope kindNotice n, rate⟩ ∧ d.notice = none) ∧
  (firstReply c.queue = none → c.refusal = none → c.notice = none → d.inFlight = none ∧ d.notice = none)

/-- Between `p` and `q` one notice with this body has been handed: it waits while a message is being sent; otherwise
CTL_TX chooses (R163, R173). -/
def NoticeHanded (body : List Byte) (p q : Part) : Prop :=
  (p.control.inFlight.isSome = true → q.control.inFlight = p.control.inFlight ∧ q.control.notice = some body) ∧
  (p.control.inFlight = none → Chosen p.straps.ctlRate { p.control with notice := some body } q.control)

/-- Commands run one after the other. -/
def runAll : List Instr → State → Host.Outcome State Fault Refusal
  | [], s => .next s
  | c :: cs, s =>
    match exec c s with
    | .next t => runAll cs t
    | .fault f => .fault f
    | .refused r => .refused r

/-- A lane in which R114 has been tested: the due flow frame has started where none is being sent, it differs from the
last one, and neither loopback nor `stopped` (ISOLATE) stops it; it is counted, and a HOLD sets the HOLD sent delta. -/
def Lane.tested (stopped : Bool) (x : Lane) : Lane :=
  let held := decide (x.flow = .held)
  let due : FlowKind := if held then .hold else .go
  if x.flowTx.isSome || decide (x.lastFlow = some due) || stopped || x.loopback then x
  else { x with
    lastFlow := some due
    flowTx := some due
    deltas := { x.deltas with hold := x.deltas.hold || held }
    counters := { x.counters with
      holdSent := if held then bump x.counters.holdSent else x.counters.holdSent
      goSent := if held then x.counters.goSent else bump x.counters.goSent } }

/-- The flow state R113 gives an enabled lane whose queue holds `n` frames. -/
def flowAfter (high low n : Nat) : FlowState → FlowState
  | .flowing => if high ≤ n then .held else .flowing
  | .held => if n ≤ low then .flowing else .held

/-- A member's entry in a SET (R189): its buffer's bytes as they were written where none or one bit is wrong, and the
substitute of R130 with the DAMAGED flag where more are (three and more: log 4). -/
def memberAsSent (s : Store) (m : Member) : List Byte :=
  let b := s.buffer m.buffer
  let own := be 4 m.number ++ be 2 m.index ++ be 1 m.lane.val ++ be 1 m.waitClass.val
  let marks := (if m.tardy then 256 else 0) + (if m.extra then 512 else 0)
  if b.wrongBits.length ≤ 1 then
    own ++ be 1 (frameQuality b.body) ++ be 2 ((frameFlags b.body).toNat + marks) ++ (b.body.drop 13).take 3 ++
      (b.body.drop 16).take 8 ++ b.body.drop 24
  else own ++ [0x0F#8] ++ be 2 (1024 + marks) ++ List.replicate 3 0x00#8 ++ List.replicate 8 0x00#8

/-- A set record as it is sent: its members in their order and the missing numbers (R141, R189). -/
def setAsSent (node : BitVec 4) (s : Store) (r : SetRecord) : RecordInFlight :=
  ⟨.set, envelope kindSet
    (be 1 node.toNat ++ be 1 r.flags.code ++ be 4 r.label.second ++ be 2 r.label.tick ++ be 2 r.members.length ++
      be 2 r.missing.length ++ r.members.flatMap (memberAsSent s) ++ r.missing.flatMap (be 4))⟩

/-- R53: at most 256 entries, in strictly rising label order, so no two with the same label. -/
def Part.WindowOrdered (p : Part) : Prop :=
  p.engine.entries.length ≤ 256 ∧ (p.engine.entries.map Epoch.label).Pairwise (fun a b => a.lt b = true)

/-- The Payload Store's list of buffers is in its canonical form. -/
def Store.wf (s : Store) : Bool := sparseWf Buffer.blank s.buffers

/-- A counter after `k` events of its kind. -/
def bumpedBy (k n : Nat) : Nat := if k = 0 then n else bumpBy k n

/-- Between `s` and `t` the buffers `ns` have been returned: they are FREE with the bytes they had, at the tail of the free
list, the low-mark state follows with no cause raised, and nothing else of the Payload Store changes (R125, R127). -/
def Returned (ns : List Nat) (s t : Store) : Prop :=
  t = { s with
    buffers := t.buffers
    freeList := s.freeList ++ ns
    below := decide ((s.freeList ++ ns).length < s.lowMark) } ∧
  (s.wf = true → ∀ n, t.buffer n = if n ∈ ns then { s.buffer n with state := .free } else s.buffer n)

/-- Between `s` and `t` the buffer of a frame that is given up has been returned, where it had one. -/
def ReturnedIf (n : Option Nat) (s t : Store) : Prop :=
  (n = none → t = s) ∧ ∀ k, n = some k → Returned [k] s t

/-- Between `p` and `t` a record that ended has given its buffers `ns` back; then some of the buffers `rs` may have been
released, and the buffers of a record that starts have been read. Nothing else of the Payload Store changes (R125, R127,
R129, R143). -/
def GivenBack (ns rs : List Nat) (p t : Part) : Prop :=
  t.store = { p.store with
    buffers := t.store.buffers
    freeList := p.store.freeList ++ ns
    below := decide ((p.store.freeList ++ ns).length < p.store.lowMark)
    corrections := t.store.corrections
    damagedReads := t.store.damagedReads } ∧
  (t.egress.inFlight = none →
    t.store.corrections = p.store.corrections ∧ t.store.damagedReads = p.store.damagedReads) ∧
  (p.store.wf = true → ∀ n,
    (t.store.buffer n).body = (p.store.buffer n).body ∧
    ((t.store.buffer n).wrongBits = (p.store.buffer n).wrongBits ∨
      ((t.store.buffer n).wrongBits = [] ∧ (p.store.buffer n).wrongBits.length = 1 ∧ t.egress.inFlight.isSome = true)) ∧
    (n ∉ rs → (t.store.buffer n).state = if n ∈ ns then .free else (p.store.buffer n).state) ∧
    (n ∈ rs → (t.store.buffer n).state = .released ∨
      (t.store.buffer n).state = if n ∈ ns then .free else (p.store.buffer n).state))

/-- What a set record holds, its send state apart. -/
def SetRecord.content (r : SetRecord) : Label × Nat × List Member × List Nat × SetFlags :=
  (r.label, r.fo, r.members, r.missing, r.flags)

/-- What the set record of an entry holds (R66): the label at the output rate, the members, the numbers of the items
without a member, and the flags. -/
def Epoch.asSet (e : Epoch) (p : Part) (flushed reinit : Bool) : Label × Nat × List Member × List Nat × SetFlags :=
  let missing := (e.expected.filter (fun x => e.members.all (fun m => m.index != x.index))).map Expected.number
  (e.label, p.engine.cfg.fo, e.members, missing,
    ⟨if e.members = [] then .void else if missing = [] then .complete else .incomplete,
      decide (p.timeBase.state = .holdover), decide (p.timeBase.state = .expired), e.members.any Member.tardy, flushed,
      reinit⟩)

/-- Between `p` and `t` the entry `e`, the oldest, has left by its turn: its record joins the tail of the Release Queue, and
its members' buffers are RELEASED (R65, R66). Later entries may have followed it. -/
def LeftByTurn (e : Epoch) (p t : Part) : Prop :=
  (p.egress.releaseQueue.map SetRecord.content ++ [e.asSet p false false]) <+: t.egress.releaseQueue.map SetRecord.content ∧
  ∀ m ∈ e.members, (t.store.buffer m.buffer).state = .released

/-- No strobe is due, and no entry's deadline expiry is (R18, R70). -/
def CaughtUp (t : Part) : Prop := t.strobeDue = none ∧ ∀ e ∈ t.engine.entries, t.expiryDue e = false

/-- Between `p` and `t` an entry has fallen DUE only by completeness, every count being 0, or by a deadline, its own as it
stood when it fell DUE, that part time has reached (R20, R62, R63). -/
def FellDueByRule (p t : Part) : Prop :=
  ∀ z ∈ t.engine.entries, z.state = .due →
    (∃ e ∈ p.engine.entries, e.label = z.label ∧ e.state = .due) ∨ z.counts.allZero = true ∨ t.deadlineReached z = true

/-- The strobe label, where present, is a label. -/
def Engine.StrobeSound (g : Engine) : Prop := ∀ l, g.strobe = some l → l.tick < g.cfg.fo ∧ l.second ≤ maxSecond

/-- Between `p` and `t` reference `r`, whose reference time is `n`, has been measured against part time `pt`, the Time Base
being `b` with the deltas `d` and TRACKING it (R16, R17, R18): an offset within the step threshold is slewed away; beyond
it part time steps to the reference time. A step forward of a running engine brings the strobes and expiries it reaches, so
that none is due afterwards and the strobe label is the first after the new part time (R10, R19); otherwise the Epoch Table
stays. -/
def Measured (r : RefPort) (n : Nat) (pt : PartTime) (b : TimeBase) (d : TimeDeltas) (p t : Part) : Prop :=
  let o : Int := (pt.ns : Int) - n
  (o.natAbs ≤ b.cfg.stepThreshold * 1000 →
    t.timeBase = { b with
      state := .tracking, selected := some r, offset := some o, slew := o * 20000, slewing := decide (o ≠ 0), deltas := d } ∧
    t.engine = p.engine) ∧
  (b.cfg.stepThreshold * 1000 < o.natAbs →
    t.timeBase = { b with
      state := .tracking
      selected := some r
      partTime := some (PartTime.ofNs n)
      offset := some o
      slew := 0
      slewing := false
      deltas := { d with stepped := true } } ∧
    t.attention.pending.time = true ∧
    (isForward pt n = false ∨ p.engine.mode ≠ .run → t.engine = p.engine) ∧
    (isForward pt n = true → p.engine.mode = .run → p.WindowOrdered → p.engine.StrobeSound →
      t.engine.mode = .run ∧ CaughtUp t ∧
      ∀ l, p.engine.strobe = some l → p.engine.lastLabel = .ahead →
        l.lt ((PartTime.ofNs n).firstLabel p.fo) = true →
        t.engine.strobe = some ((PartTime.ofNs n).firstLabel p.fo)))

/-- A stream after `k` misses that leave its state alone (R42). -/
def Stream.afterMisses (k : Nat) (x : Stream) : Stream :=
  if k = 0 then x
  else { x with
    missCount := min (x.missCount + k) 255
    counters := { x.counters with misses := bumpBy k x.counters.misses } }

/-- Port `r`'s state-changed delta is set (R21). -/
def TimeDeltas.port (r : RefPort) (d : TimeDeltas) : TimeDeltas :=
  match r with
  | .A => { d with a := true }
  | .B => { d with b := true }

/-- A receiver in which a byte has arrived at `now` under the gap limit `gapNs`: the gap timer has restarted (R110). -/
def Rx.heard (now gapNs : Nat) (r : Rx) : Rx := { r with lastByteAt := now, gapNs := gapNs }

/-- The check code the retained bytes carry agrees with the one computed, for a body of `len` bytes (R186). -/
abbrev checkGood (len : Nat) (bytes : List Byte) : Prop :=
  crcBytes ((bytes.drop 1).take (4 + len)) = (bytes.drop (5 + len)).take 2

/-- The parameters a CONFIGURE_ALIGNMENT carries (R72). -/
def alignmentParams (ps : List Byte) : AlignConfig :=
  ⟨field ps 0 1, ⟨field ps 1 2, field ps 3 2, field ps 5 2, field ps 7 2⟩, field ps 9 2, field ps 11 1,
    if byteAt ps 12 = 0 then .emit else .suppress, byteAt ps 13 = 1⟩

/-- The request is refused with the status, and nothing but the Control Link shows it (R161). -/
def Refuses (i : Instr) (e : RequestEntry) (st : Status) (s : State) : Prop :=
  Completes i s (fun t => Answered e st [] s.part t ∧ t = { s.part with control := t.control })

end Sys2Proof.Machine

namespace Sys2Proof

/-- The request rows, each with its code; the two RESTART rows share one. -/
def Instr.requestCode : Instr → Option Nat
  | .identify => some 0x01
  | .readTime => some 0x10
  | .configureReference => some 0x11
  | .selectReference => some 0x12
  | .registerStream => some 0x20
  | .alterStream => some 0x21
  | .suspendStream => some 0x22
  | .resumeStream => some 0x23
  | .retireStream => some 0x24
  | .readStream => some 0x25
  | .readChanges => some 0x26
  | .readStrangers => some 0x27
  | .configureAlignment => some 0x30
  | .flushWindow => some 0x31
  | .readWindow => some 0x32
  | .readSorter => some 0x38
  | .configureLane => some 0x40
  | .readLane => some 0x41
  | .readPool => some 0x48
  | .setPoolMark => some 0x49
  | .configureEgress => some 0x50
  | .holdEgress => some 0x51
  | .resumeEgress => some 0x52
  | .readEgress => some 0x53
  | .readAttention => some 0x58
  | .setAttentionMask => some 0x59
  | .setLoopback => some 0x60
  | .injectFrame => some 0x61
  | .sweepStore => some 0x62
  | .restartFull => some 0x02
  | .restartAlignment => some 0x02
  | .powerOn _ | .resetNAssert | .pin _ | .isolateAsserted | .isolateRemoved | .carrierChange _ _
  | .pulse _ | .timeMessage _ _ | .timeMessageError _ _ | .tmsgGapExpiry _ | .missingPulseExpiry _
  | .silenceExpiry _ | .holdoverSecond | .slewEnd | .strobe | .deadlineExpiry _ | .sort | .laneHeader _ _
  | .laneFrameEnd _ _ | .laneGapExpiry _ | .flowFrameEnd _ | .sweepVerdict _ | .recordEnd | .pause _
  | .resume _ | .returnEnvelopeError _ | .returnGapExpiry | .pauseLimitExpiry | .requestArrival _
  | .controlEnvelopeError _ | .controlGapExpiry | .messageEnd | .unknownRequest | .realignmentComplete
  | .laneByte _ _ | .controlLinkByte _ | .tmsgByte _ _ | .returnLinkByte _ => none

/-- The commands that act while RESET_N is low: supply, the release of RESET_N, pin levels, and the end of a message or
flow frame that was in flight (R1). -/
def Instr.heeded : Instr → Bool
  | .powerOn _ | .pin _ | .isolateAsserted | .isolateRemoved | .carrierChange _ _ | .flowFrameEnd _ | .messageEnd => true
  | .resetNAssert | .pulse _ | .timeMessage _ _ | .timeMessageError _ _ | .tmsgGapExpiry _ | .missingPulseExpiry _
  | .silenceExpiry _ | .holdoverSecond | .slewEnd | .strobe | .deadlineExpiry _ | .sort | .laneHeader _ _
  | .laneFrameEnd _ _ | .laneGapExpiry _ | .sweepVerdict _ | .recordEnd | .pause _ | .resume _
  | .returnEnvelopeError _ | .returnGapExpiry | .pauseLimitExpiry | .requestArrival _ | .controlEnvelopeError _
  | .controlGapExpiry | .unknownRequest | .identify | .restartFull | .restartAlignment | .readTime
  | .configureReference | .selectReference | .registerStream | .alterStream | .suspendStream | .resumeStream
  | .retireStream | .readStream | .readChanges | .readStrangers | .configureAlignment | .realignmentComplete
  | .flushWindow | .readWindow | .readSorter | .configureLane | .readLane | .readPool | .setPoolMark
  | .configureEgress | .holdEgress | .resumeEgress | .readEgress | .readAttention | .setAttentionMask
  | .setLoopback | .injectFrame | .sweepStore | .laneByte _ _ | .controlLinkByte _ | .tmsgByte _ _
  | .returnLinkByte _ => false

end Sys2Proof

namespace Sys2Proof.Machine

/-- The receiver is taking the body and check of an accepted envelope: RECEIVE. -/
def Rx.receiving (r : Rx) : Bool :=
  match r.phase with
  | .body _ => true
  | .seek | .header | .skip _ => false

/-! ### Laws that every step keeps -/

/-- R172: while RESET_N is high, ATTN is asserted exactly when ISOLATE is not asserted and an enabled cause is
pending. -/
def Part.AttnFollows (p : Part) : Prop := p.pins.resetLow = false → p.attention.attn = attnLevel p

/-- R13, R11, R9: a TRACKING Time Base's selected reference is QUALIFIED; part time is absent exactly in UNSET; a port that
is QUALIFIED or has a good count holds a pulse record. -/
def Part.TimeSound (p : Part) : Prop :=
  (p.timeBase.state = .tracking → ∃ r, p.timeBase.selected = some r ∧ (p.port r).state = .qualified) ∧
    (p.timeBase.state = .unset ↔ p.timeBase.partTime = none) ∧
    ∀ r, ((p.port r).state = .qualified ∨ (p.port r).goodCount ≠ 0) → (p.port r).pulseRecord.isSome = true

/-- R51, R52: an IDLE engine has no entries; the strobe label is absent in IDLE and present in RUN; RUN is with part time
set; while the strobe label is absent the table is empty. -/
def Part.EngineTimed (p : Part) : Prop :=
  (p.engine.mode = .idle → p.engine.strobe = none) ∧
    (p.engine.mode = .run → p.engine.strobe.isSome = true ∧ p.timeBase.partTime.isSome = true) ∧
    (p.engine.strobe = none → p.engine.entries = []) ∧
    (p.timeBase.partTime = none → p.engine.strobe = none)

/-- R112, R136, R137, R140, R46, R157: no queue or list grows beyond its largest size. -/
def Part.QueuesBounded (p : Part) : Prop :=
  (∀ l, (p.lane l).queue.length ≤ 64) ∧ p.egress.releaseQueue.length ≤ 32 ∧ p.egress.stragglers.length ≤ 16 ∧
    p.egress.arbiter ≤ 4 ∧ p.streams.strangers.length ≤ 16 ∧ p.control.queue.length ≤ 4

/-- The Stream Table's list of slots is in its canonical form. -/
def StreamTable.wf (t : StreamTable) : Bool := sparseWf Slot.vacant t.slots

/-- Both stores by number are in canonical form, so that equal contents are equal data. -/
def Part.StorageCanonical (p : Part) : Prop := p.store.wf = true ∧ p.streams.wf = true

/-- The sum of the fourteen outcome counters. -/
def DiscardCounters.total (c : DiscardCounters) : Nat :=
  c.noTime + c.reinit + c.malformed + c.stranger + c.suspended + c.retired + c.layoutMismatch + c.offGrid +
    c.decimated + c.late + c.ahead + c.duplicate + c.windowFull + c.noEpoch

/-- R28, R31: no two entries of the Stream Table hold one stream number. -/
def Part.NumbersDistinct (p : Part) : Prop :=
  ∀ i j x y, p.stream i = some x → p.stream j = some y → x.number = y.number → i = j

/-- R53, R54, R55: an entry expects no index twice, and no entry or set record holds two members of one index (both are kept
in ascending index); an OPEN entry counts, for each class, the items that are not withdrawn and have no member, and its
deadline is the wait of the highest class with a count, absent where every count is 0. -/
def Part.WindowCounted (p : Part) : Prop :=
  (∀ e ∈ p.engine.entries,
    (e.expected.map Expected.index).Pairwise (· < ·) ∧ (e.members.map Member.index).Pairwise (· < ·) ∧
    (e.state = .opened →
      (∀ k : Fin 4, e.counts.get k = e.expected.countP (fun x =>
        decide (x.waitClass = k) && !x.withdrawn && e.members.all (fun m => m.index != x.index))) ∧
      (∀ k : Fin 4, e.counts.get k ≠ 0 → (∀ j : Fin 4, k < j → e.counts.get j = 0) →
        e.deadline = some (p.engine.cfg.waits.get k)) ∧
      ((∀ k : Fin 4, e.counts.get k = 0) → e.deadline = none))) ∧
  (∀ r ∈ p.egress.releaseQueue, (r.members.map Member.index).Pairwise (· < ·))

/-- R116: LANE is pending while any lane's delta set is not empty. -/
def Part.LanePends (p : Part) : Prop :=
  (∃ l, (p.lane l).deltas ≠ ⟨false, false, false⟩) → p.attention.pending.lane = true

/-- R127: the low-mark state is BELOW exactly while fewer buffers than the low mark are free. -/
def Part.PoolMarked (p : Part) : Prop := p.store.below = decide (p.store.freeList.length < p.store.lowMark)

/-- R82: sorted equals filed plus the sum of the fourteen outcome counters, until it stops at its largest value. -/
def Part.SortsAccounted (p : Part) : Prop :=
  p.sorter.sorted = min (p.sorter.filed + p.sorter.discards.total) counterMax

def EntryState.isReplying : EntryState → Bool
  | .replying _ => true
  | .waiting | .executing => false

/-- The queue is REPLYING entries, then at most one EXECUTING entry, then WAITING entries (R158). -/
def queueOrdered : List RequestEntry → Bool
  | [] => true
  | e :: r =>
    match e.state with
    | .replying _ => queueOrdered r
    | .executing => r.all RequestEntry.isWaiting
    | .waiting => r.all RequestEntry.isWaiting

def Part.RequestsOrdered (p : Part) : Prop := queueOrdered p.control.queue = true

/-- The buffers that are held, each with the state its holder gives it (R123). -/
def Part.held (p : Part) : List (Nat × BufState) :=
  p.store.freeList.map (fun n => (n, .free)) ++
  p.lanes.toList.flatMap (fun x =>
    x.claimed.toList.map (fun n => (n, .filling)) ++ x.queue.map (fun e => (e.buffer, .queued))) ++
  p.engine.entries.flatMap (fun e => e.members.map (fun m => (m.buffer, .filed))) ++
  p.egress.releaseQueue.flatMap (fun r => r.members.map (fun m => (m.buffer, .released))) ++
  p.egress.stragglers.map (fun r => (r.buffer, .straggling)) ++
  p.store.sweep.testing.toList.map (fun n => (n, .sweeping))

/-- R123, R125: no buffer has two holders; each is in the state its holder gives it; every buffer that is not RETIRED has
a holder, so that the free list holds every FREE buffer once. A buffer is FILLING for a frame being received, and
SWEEPING in a running sweep. -/
def Part.BuffersAccounted (p : Part) : Prop :=
  (p.held.map Prod.fst).Nodup ∧
  (∀ x ∈ p.held, x.1 < 16384 ∧ (p.store.buffer x.1).state = x.2) ∧
  (∀ n, n < 16384 → (p.store.buffer n).state ≠ .retired → n ∈ p.held.map Prod.fst) ∧
  (∀ l, (p.lane l).claimed.isSome = true → (p.lane l).rx.receiving = true) ∧
  (p.store.sweep.testing.isSome = true → p.store.sweep.running = true)

/-- How many members and stragglers are of stream `i`: FILED, RELEASED and STRAGGLING (R37). -/
def Part.references (p : Part) (i : Nat) : Nat :=
  (p.engine.entries.flatMap Epoch.members).countP (fun m => m.index == i) +
    (p.egress.releaseQueue.flatMap SetRecord.members).countP (fun m => m.index == i) +
    p.egress.stragglers.countP (fun r => r.index == i)

/-- R37: each stream's reference count is the number of its buffers that are FILED, RELEASED or STRAGGLING; a VACANT entry
has none. -/
def Part.ReferencesCounted (p : Part) : Prop :=
  ∀ i, p.references i = ((p.stream i).map Stream.refCount).getD 0

/-- The instant of label `a` at output rate `f` is earlier than that of label `b` at output rate `g`. -/
def earlier (a : Label) (f : Nat) (b : Label) (g : Nat) : Prop :=
  a.second < b.second ∨ (a.second = b.second ∧ a.tick * g < b.tick * f)

/-- The instant `m` is earlier than that of label `l` at output rate `f`. -/
abbrev Instant.earlierThan (m : Instant) (l : Label) (f : Nat) : Prop := earlier ⟨m.second, m.tick⟩ m.rate l f

/-- The instant `m` is that of label `l` at output rate `f`. -/
def Instant.at_ (m : Instant) (l : Label) (f : Nat) : Prop := m.second = l.second ∧ m.tick * f = l.tick * m.rate

/-- R65, R76, R136, R144: the Release Queue's records rise strictly by instant, none is later than the label that left the
table last (the horizon, or while that is absent the realignment mark, or the seal of log 41), and every entry of the table
is later than each of them; every label still to be strobed is later than the mark. -/
def Part.LabelsInOrder (p : Part) : Prop :=
  let g := p.engine
  p.egress.releaseQueue.Pairwise (fun a b => earlier a.label a.fo b.label b.fo) ∧
  (∀ r ∈ p.egress.releaseQueue, 0 < r.fo ∧ ∃ m, g.newestLeft = some m ∧ ¬ m.earlierThan r.label r.fo) ∧
  (∀ r ∈ p.egress.releaseQueue, ∀ e ∈ g.entries, earlier r.label r.fo e.label g.cfg.fo) ∧
  (g.horizon.isSome = true → g.mark = none) ∧
  (g.horizon.isSome = true ∨ g.mark.isSome = true → g.sealed = none) ∧
  (∀ m, g.sealed = some m → 0 < m.rate) ∧
  (∀ m, g.mark = some m → 0 < m.rate ∧
    ∀ l, g.strobe = some l → g.lastLabel ≠ .withheld → m.earlierThan l g.cfg.fo) ∧
  0 < g.cfg.fo ∧
  (∀ w, g.realign = some w → 0 < w.cfg.fo ∧ (∀ l, w.newest = some l → g.horizon = some l)) ∧
  (g.realign.isSome = true ↔ g.mode = .reinit)

/-- R65: every entry of the table is later than the label that left it last. -/
def Part.EntriesAfterLeft (p : Part) : Prop :=
  ∀ e ∈ p.engine.entries, ∀ m, p.engine.newestLeft = some m → m.earlierThan e.label p.engine.cfg.fo

/-- The label `l` at output rate `f` has left the table, or was passed over by labels that have: it was dropped ahead of an
earlier one (log 37), or it is not later than the label that left last, and earlier than every entry. -/
def Part.HasLeft (p : Part) (l : Label) (f : Nat) : Prop :=
  (∃ m ∈ p.engine.dropped, m.at_ l f) ∨
    ((∃ m, p.engine.newestLeft = some m ∧ ¬ m.earlierThan l f) ∧
      ∀ e ∈ p.engine.entries, earlier l f e.label p.engine.cfg.fo)

/-- R144: no entry of the table is for a label that has left it. -/
def Part.NoneReturned (p : Part) : Prop := ∀ e ∈ p.engine.entries, ¬ p.HasLeft e.label p.engine.cfg.fo

/-- R65, R144: the label that left the table last is not followed by an earlier one. -/
def LeftStays (p q : Part) : Prop :=
  ∀ m, p.engine.newestLeft = some m →
    ∃ n, q.engine.newestLeft = some n ∧ ¬ earlier ⟨n.second, n.tick⟩ n.rate ⟨m.second, m.tick⟩ m.rate

end Sys2Proof.Machine
end

