-- ==== Sys2Proof/Certificates/Slice0/Obligations.lean ====
section
/-! DEFINITION. The statements for the provers. Each is about every state that meets its premises, reachable or not; the
vocabulary (Completes, Ready, Runs, Answered, Raised and the invariants) is in Safety.lean. A statement about an event of a
block other than the executor is about a part that is Ready; EveryCommandAnswers says what the others come to first. -/

open Sys2Proof Sys2Proof.Machine

/-! ### The machine as a whole -/

/-- A step with a command in front of the queue is that command on the rest of the queue. -/
def Obligations.StepRunsFrontCommand : Prop :=
  ∀ (c : Instr) (rest : List Instr) (p : Part), step ⟨c :: rest, p⟩ = exec c ⟨rest, p⟩

/-- The model's choice of log 1: on an empty queue the time-driven command that is due is taken, or `idleSpan` ns of
local oscillator time pass. What passing time does is R10 and R17: part time absent stays absent; at its largest value
it stays there; otherwise it advances, one 20,000th of a nanosecond slower or faster in each nanosecond while slew
remains (50,000 ns in a second, log 13). The stored bit that the free value names turns over, and none where it names
none (log 4). What was under way between two events has come to its end before (log 45, 46: EveryCommandAnswers says
what that is); nothing else changes. -/
def Obligations.EmptyQueueTakesDueOrElapses : Prop :=
  ∀ p : Part,
    (∀ c, dueEvent p = some c → step ⟨[], p⟩ = exec c ⟨[], p⟩) ∧
    (dueEvent p = none → ∃ q, step ⟨[], p⟩ = .next ⟨[], q⟩ ∧
      q = { p.settled with
        clock := p.clock + p.idleSpan
        freeUses := p.freeUses + 1
        timeBase := { p.timeBase with partTime := q.timeBase.partTime, slew := q.timeBase.slew }
        store :=
          match Config.storeUpset p.freeUses with
          | none => p.store
          | some (n, k) => p.store.upset n k } ∧
      (p.timeBase.partTime = none → q.timeBase = p.timeBase) ∧
      (∀ f, p.timeBase.partTime = some ⟨4294967295, 999999999, f⟩ →
        ∃ g, q.timeBase.partTime = some ⟨4294967295, 999999999, g⟩) ∧
      (∀ t, p.timeBase.partTime = some t → 0 ≤ p.timeBase.slew →
        q.timeBase.partTime =
          some (PartTime.ofUnits (t.units + p.idleSpan * 20000 - min p.timeBase.slew.toNat p.idleSpan)) ∧
        q.timeBase.slew = p.timeBase.slew - min p.timeBase.slew.toNat p.idleSpan) ∧
      (∀ t, p.timeBase.partTime = some t → p.timeBase.slew < 0 →
        q.timeBase.partTime =
          some (PartTime.ofUnits (t.units + p.idleSpan * 20000 + min (-p.timeBase.slew).toNat p.idleSpan)) ∧
        q.timeBase.slew = p.timeBase.slew + min (-p.timeBase.slew).toNat p.idleSpan))

/-- Every command answers a next state, and the waiting commands stay in the queue. It is the model's choice that a state
no run reaches, and a command whose event cannot occur, are answered so as well (log 25, 5). R40, R85: between a sort and
the arrival of its filing at the Stream Table only requests run; every other event finds the filing arrived: the entry as
it then stands takes it, its miss count, last filed label, condition summary and counts, and an ARMED or STALE one becomes
LIVE and marked, with STREAM raised. R159: a request row finds the oldest WAITING entry started where none executes. The
model's readings: a filing that finds its stream gone changes nothing, RESTART finds it arrived (log 45), and the executor
starts an entry no later than when time passes (log 46). -/
def Obligations.EveryCommandAnswers : Prop :=
  (∀ (c : Instr) (s : State),
    (∃ p, exec c s = .next ⟨s.pending, p⟩) ∧
    (c.requestCode.isSome = true ∨ c = .unknownRequest → c ≠ .restartFull → c ≠ .restartAlignment →
      exec c s = exec c { s with part := s.part.started }) ∧
    (c = .restartFull ∨ c = .restartAlignment → exec c s = exec c { s with part := s.part.settled }) ∧
    (c.requestCode = none → c ≠ .unknownRequest → (∀ st, c ≠ .powerOn st ∧ c ≠ .pin st) →
      exec c s = exec c { s with part := s.part.reached })) ∧
  (∀ p : Part, p.settled = p.reached.started ∧
    p.started = (if p.pins.resetLow = true ∨ (executing p.control.queue).isSome = true then p
      else { p with control := { p.control with queue := startWaiting p.control.queue } }) ∧
    (p.pins.resetLow = true ∨ p.filing = none → p.reached = p) ∧
    (∀ x, p.filing = some x → p.pins.resetLow = false →
      let filed := fun (z : Stream) => { z with
        missCount := 0
        lastFiled := some x.label
        summary := ⟨some (match z.summary.quality with
            | none => x.quality
            | some w => max w x.quality), z.summary.flags ||| x.flags⟩
        counters := { z.counters with
          filed := bump z.counters.filed
          tardy := if x.tardy then bump z.counters.tardy else z.counters.tardy } }
      ((∀ z, p.stream x.index = some z → z.number ≠ x.number) → p.reached = { p with filing := none }) ∧
      (∀ z, p.stream x.index = some z → z.number = x.number →
        (∀ i, i ≠ x.index → p.reached.streams.slot i = p.streams.slot i) ∧
        (z.state ≠ .armed → z.state ≠ .stale →
          p.reached = { p with
            filing := none
            streams := { p.streams with slots := p.reached.streams.slots } } ∧
          p.reached.streams.slot x.index = ⟨some (filed z), (p.streams.slot x.index).mark⟩) ∧
        (z.state = .armed ∨ z.state = .stale →
          p.reached = { p with
            filing := none
            streams := { p.streams with slots := p.reached.streams.slots }
            control := p.reached.control
            attention := p.reached.attention } ∧
          p.reached.streams.slot x.index = ⟨some { filed z with state := .live }, true⟩ ∧
          Raised .stream p p.reached))))

/-! ### RESET_N and the reset events -/

/-- R1: when RESET_N falls, a Set Link record in flight stops at that moment; everything else stands, ATTN and the
messages and flow frames being sent among it. While RESET_N is low, every command but supply, the release of RESET_N,
the pin levels and the ends of what was being sent changes nothing at all; those leave everything alone but the pin
levels, the flow frame, and the message in flight with its queue entry or refusal slot, so that ATTN keeps its level and
no transmitter starts anything. The model's readings: the queue of the record that stopped is left as it is (log 27);
ISOLATE and CARRIER levels are recorded (log 20); a RESET_N that is low already, and a message's end where none is sent,
change nothing (log 5). -/
def Obligations.HeldResetTakesNothing : Prop :=
  (∀ s : State, s.part.pins.resetLow = true →
    (exec .isolateAsserted s = .next { s with part := s.part.setIsolate true }) ∧
    (exec .isolateRemoved s = .next { s with part := s.part.setIsolate false }) ∧
    (∀ l high, exec (.carrierChange l high) s = .next { s with part := s.part.setCarrier l high }) ∧
    (∀ l, exec (.flowFrameEnd l) s =
      .next { s with part := s.part.onLane l (fun x => { x with flowTx := none }) }) ∧
    (s.part.control.inFlight = none → exec .messageEnd s = .next s) ∧
    (∀ m, s.part.control.inFlight = some m → exec .messageEnd s =
      .next { s with part := { s.part with control := { s.part.control with
        inFlight := none
        queue := if m.source = .entry then dropReplied s.part.control.queue else s.part.control.queue
        refusal := if m.source = .refusal then none else s.part.control.refusal } } })) ∧
  (∀ s : State,
    (s.part.Ready → exec .resetNAssert s =
      .next { s with part := { s.part with
        pins := { s.part.pins with resetLow := true }
        egress := { s.part.egress with inFlight := none } } }) ∧
    (s.part.pins.resetLow = true → exec .resetNAssert s = .next s)) ∧
  ∀ (c : Instr) (s : State), s.part.pins.resetLow = true → c.heeded = false → exec c s = .next s

/-- The state after POWER_ON, field by field (R2, R5, R11, R23, R27, R46, R51, R52, R72, R82, R104, R122, R138, R155,
R169). Every lane sends one GO (R114), unless ISOLATE or RESET_N stops it. The model's choices: the pin levels, the
clock, idleSpan and freeUses stay (log 11), stamp and holdoverEntry become 0 (log 29), and every buffer is empty (log
24). -/
def Obligations.PowerOnSetsEverything : Prop :=
  ∀ (st : Straps) (s : State), exec (.powerOn st) s = .next { s with part := { s.part with
    straps := st
    lastReset := .powerOn
    portA := Port.initial
    portB := Port.initial
    timeBase := TimeBase.initial
    streams := StreamTable.initial
    filing := none
    engine := { Engine.initial st.nominal with mode := if s.part.pins.isolate then .frozen else .idle }
    sorter := Sorter.initial
    lanes :=
      if s.part.pins.isolate || s.part.pins.resetLow then
        ⟨Lane.initial, Lane.initial, Lane.initial, Lane.initial⟩
      else ⟨Lane.started, Lane.started, Lane.started, Lane.started⟩
    store := Store.initial
    egress := Egress.initial
    control := Control.initial
    attention := Attention.initial } }

/-- The state after PIN: as after POWER_ON, but that a flow frame and a Control Link message being sent run to their ends
(R1, R120, R155). Every buffer is FREE, the retired ones too (R124, R134). The model's choices: a PIN met with RESET_N
high does the same (log 19), the buffers keep their bytes (log 24), and stamp and holdoverEntry become 0 (log 29). -/
def Obligations.PinSetsEverything : Prop :=
  ∀ (st : Straps) (s : State), Completes (.pin st) s (fun t =>
    t = { s.part with
      pins := { s.part.pins with resetLow := false }
      straps := st
      lastReset := .pin
      portA := Port.initial
      portB := Port.initial
      timeBase := TimeBase.initial
      streams := StreamTable.initial
      filing := none
      engine := { Engine.initial st.nominal with mode := if s.part.pins.isolate then .frozen else .idle }
      sorter := Sorter.initial
      lanes := s.part.lanes.map (fun x =>
        if s.part.pins.isolate || x.flowTx.isSome then { Lane.initial with flowTx := x.flowTx } else Lane.started)
      store := { Store.initial with buffers := t.store.buffers }
      egress := Egress.initial
      control := { Control.initial with
        inFlight := s.part.control.inFlight.map (fun m => { m with source := .detached }) }
      attention := Attention.initial } ∧
    (∀ n, (t.store.buffer n).state = .free) ∧
    (s.part.store.wf = true → ∀ n, t.store.buffer n = { s.part.store.buffer n with state := .free }))

/-- The reset state is what POWER_ON leaves with the straps and pins of log 11 (R2, DEDUCED in log 12: the GO of every
lane has started). -/
def Obligations.ResetStateIsAfterPowerOn : Prop :=
  exec (.powerOn Straps.low) State.reset = .next State.reset ∧ State.reset.pending = []

/-- R165, R166 and each chapter's reset rule, for scope FULL: the waiting requests are discarded and counted, the waiting
notice is withdrawn, the part is as after a power-up but for the straps, the retired buffers, the last flow frames and the
Control Link, and the reply gives the scope and the last reset event. Only POOL can be pending afterwards (R127); then one
notice that names it is handed, unless ISOLATE is asserted (R176), and it waits behind the reply (DEDUCED, log 28). What
is being sent on CTL_TX goes on. A scope that is neither FULL nor ALIGNMENT is refused with RANGE; a row that meets the
other scope changes nothing (the model's choice, log 28). -/
def Obligations.RestartFullTakesReset : Prop :=
  (∀ (s : State) (e : RequestEntry) (k : Byte), s.part.Runs 0x02 e → s.part.filing = none → e.params = [k] →
    (k.toNat = 1 → exec .restartFull s = .next s) ∧ (2 ≤ k.toNat → Refuses .restartFull e .range s)) ∧
  ∀ (s : State) (e : RequestEntry), s.part.Runs 0x02 e → s.part.filing = none → e.params = [0x00#8] →
    Completes .restartFull s (fun t =>
      t = { s.part with
        lastReset := .restartFull
        portA := Port.initial
        portB := Port.initial
        timeBase := TimeBase.initial
        streams := StreamTable.initial
        engine := { Engine.initial s.part.nominal with mode := if s.part.pins.isolate then .frozen else .idle }
        sorter := Sorter.initial
        lanes := s.part.lanes.map (fun x =>
          if s.part.pins.isolate || x.flowTx.isSome || x.lastFlow = some .go then
            { Lane.initial with lastFlow := x.lastFlow, flowTx := x.flowTx }
          else Lane.started)
        store := { Store.initial with
          buffers := t.store.buffers
          freeList := (countUp 0 16384).filter (fun n => (t.store.buffer n).state ≠ .retired)
          below := decide (t.store.freeList.length < 1024)
          lowestFree := t.store.freeList.length }
        egress := Egress.initial
        control := t.control
        attention := t.attention } ∧
      (s.part.store.wf = true → ∀ n,
        (t.store.buffer n).state = if (s.part.store.buffer n).state = .retired then .retired else .free) ∧
      Answered e .done [0x00#8, 0x02#8] { s.part with control := s.part.control.dropWaiting } t ∧
      s.part.control.dropWaiting.unanswered =
        bumpBy (s.part.control.queue.countP (fun x => x.state = .waiting)) s.part.control.unanswered ∧
      t.attention.pending = { CauseSet.empty with pool := t.store.below } ∧ t.attention.mask = CauseSet.all ∧
      t.attention.attn = (t.store.below && !s.part.pins.isolate) ∧
      t.attention.gateOpen = !(t.store.below && !s.part.pins.isolate) ∧
      t.control.notice = (if t.store.below && !s.part.pins.isolate then some [0x02#8, 0x02#8] else none) ∧
      (s.part.control.inFlight.isSome = true → t.control.inFlight = s.part.control.inFlight))

/-- R165, R166 and each chapter's reset rule, for scope ALIGNMENT: time, registrations, configuration and most counters
stay; the alignment machinery is cleared; a lane whose last flow frame is not GO sends one (R114, R120); the waiting
notice is withdrawn, causes are raised again where their reasons stand (R49, R120, R127, R176), and one notice is handed
where an enabled one is pending and ISOLATE is not asserted, behind the reply (DEDUCED, log 28). A scope that is neither
FULL nor ALIGNMENT is refused with RANGE; the row of the other scope changes nothing (the model's choice, log 28). The
model's own record of labels that have left, sealed or dropped, goes as well (logs 37, 41; R144 binds until a reset event). -/
def Obligations.RestartAlignmentKeepsTime : Prop :=
  (∀ (s : State) (e : RequestEntry) (k : Byte), s.part.Runs 0x02 e → s.part.filing = none → e.params = [k] →
    (k.toNat = 0 → exec .restartAlignment s = .next s) ∧ (2 ≤ k.toNat → Refuses .restartAlignment e .range s)) ∧
  ∀ (s : State) (e : RequestEntry), s.part.Runs 0x02 e → s.part.filing = none → e.params = [0x01#8] →
    Completes .restartAlignment s (fun t =>
      t = { s.part with
        lastReset := .restartAlignment
        streams := { s.part.streams with slots := t.streams.slots }
        engine := t.engine
        sorter := { s.part.sorter with pointer := 3 }
        lanes := t.lanes
        store := { s.part.store with
          buffers := t.store.buffers
          freeList := (countUp 0 16384).filter (fun n => (t.store.buffer n).state ≠ .retired)
          below := decide (t.store.freeList.length < s.part.store.lowMark)
          lowestFree := t.store.freeList.length
          sweep := { s.part.store.sweep with running := false, testing := none } }
        egress := { Egress.initial with
          pauseLimit := s.part.egress.pauseLimit
          counters := s.part.egress.counters }
        control := t.control
        attention := t.attention } ∧
      (t.engine.entries = [] ∧ t.engine.cfg = s.part.engine.cfg ∧ t.engine.horizon = none ∧ t.engine.mark = none ∧
        t.engine.sealed = none ∧ t.engine.dropped = [] ∧ t.engine.counters = WindowCounters.zero ∧ t.engine.realign = none ∧
        t.engine.mode = (if s.part.pins.isolate then .frozen else if s.part.timeBase.partTime.isSome then .run else .idle) ∧
        t.engine.strobe = s.part.timeBase.partTime.map (fun x => x.firstLabel s.part.fo)) ∧
      (s.part.streams.wf = true → ∀ i,
        (s.part.stream i = none → t.streams.slot i = s.part.streams.slot i) ∧
        (∀ x, s.part.stream i = some x → x.state = .live ∨ x.state = .stale →
          t.streams.slot i = ⟨some { x with state := .armed, missCount := 0, refCount := 0 }, true⟩) ∧
        (∀ x, s.part.stream i = some x → x.state = .retiring → t.streams.slot i = ⟨none, true⟩) ∧
        (∀ x, s.part.stream i = some x → x.state = .armed ∨ x.state = .suspended →
          t.streams.slot i = ⟨some { x with missCount := 0, refCount := 0 }, (s.part.streams.slot i).mark⟩)) ∧
      (∀ l, t.lane l = Lane.tested s.part.pins.isolate { s.part.lane l with
        rx := (s.part.lane l).rx.hunt
        claimed := none
        queue := []
        peak := 0
        flow := .flowing
        counters := { (s.part.lane l).counters with
          abandoned :=
            if (s.part.lane l).rx.receiving then bump (s.part.lane l).counters.abandoned
            else (s.part.lane l).counters.abandoned } }) ∧
      (s.part.store.wf = true → ∀ n,
        (t.store.buffer n).state = if (s.part.store.buffer n).state = .retired then .retired else .free) ∧
      Answered e .done [0x01#8, 0x03#8] { s.part with control := s.part.control.dropWaiting } t ∧
      t.attention.mask = s.part.attention.mask ∧
      t.attention.pending = ⟨s.part.attention.pending.time, t.store.below, s.part.anyLaneDelta, t.streams.anyMark,
        !s.part.streams.strangers.isEmpty, false⟩ ∧
      t.attention.attn = attnLevel t ∧
      t.attention.gateOpen = !(!s.part.pins.isolate && (t.attention.pending.inter t.attention.mask).nonempty) ∧
      t.control.notice = (if !s.part.pins.isolate && (t.attention.pending.inter t.attention.mask).nonempty then
        some (noticeBody t.attention) else none) ∧
      (s.part.control.inFlight.isSome = true → t.control.inFlight = s.part.control.inFlight))

/-- R2: the straps in force are those sampled at the most recent POWER_ON or PIN; no other command changes them; IDENTIFY
reports them and the last reset event, which only the four reset events change, each to its own name. -/
def Obligations.StrapsSampledAtPowerOnAndPin : Prop :=
  (∀ (c : Instr) (s t : State), exec c s = .next t →
    (∀ st, (c = .powerOn st ∨ c = .pin st) → t.part.straps = st) ∧
    ((∀ st, c ≠ .powerOn st ∧ c ≠ .pin st) → t.part.straps = s.part.straps) ∧
    (t.part.lastReset ≠ s.part.lastReset → (∃ st, c = .powerOn st ∧ t.part.lastReset = .powerOn) ∨
      (∃ st, c = .pin st ∧ t.part.lastReset = .pin) ∨ (c = .restartFull ∧ t.part.lastReset = .restartFull) ∨
      (c = .restartAlignment ∧ t.part.lastReset = .restartAlignment))) ∧
  ∀ (s : State) (e : RequestEntry), s.part.Runs 0x01 e → e.params = [] →
    Completes .identify s (fun t => t = { s.part with control := t.control } ∧
      Answered e .done
        ([0x0D#8, 0x7A#8, 0x05#8, 0x12#8, 0x01#8, BitVec.ofNat 8 s.part.straps.nominal,
            BitVec.ofNat 8 s.part.straps.node.toNat, BitVec.ofNat 8 s.part.straps.ctlRate.toNat] ++
          be 4 (if s.part.straps.ctlRate = 0 then 115200 else if s.part.straps.ctlRate = 1 then 460800
            else if s.part.straps.ctlRate = 2 then 921600 else 3000000) ++
          be 1 s.part.lastReset.code ++ be 4 s.part.control.envelopeErrors ++ be 4 s.part.control.unanswered)
        s.part t)

/-! ### ISOLATE and CARRIER -/

/-- R51, R78, R121, R135, R149, R167, R172, R177: ISOLATE asserted freezes the engine (a realignment runs on), abandons
what the lanes are receiving, breaks off the record in flight, which stays at its queue's head as RESEND, quiets the
receivers, discards what the Control Link holds and counts it, and releases ATTN; the pending causes, the mask and the
gate stay. The EXECUTING entry stays, and of the REPLYING ones the first, where its reply is in flight; a request that
has only just arrived is WAITING and is discarded (R168). The abandoned frames' buffers are returned. The model's
choices: the buffers of several lanes join the free list in the order of the lanes (log 38), and ISOLATE already
asserted changes nothing (log 5). -/
def Obligations.IsolateAssertedQuietsPart : Prop :=
  ∀ s : State,
    (s.part.pins.isolate = true → s.part.filing = none → exec .isolateAsserted s = .next s) ∧
    (s.part.pins.isolate = false → s.part.Ready → Completes .isolateAsserted s (fun t =>
      t = { s.part with
        pins := { s.part.pins with isolate := true }
        engine := { s.part.engine with
          mode := if s.part.engine.mode = .reinit then .reinit else .frozen }
        lanes := t.lanes
        store := t.store
        egress := { s.part.egress with
          inFlight := none
          releaseQueue := t.egress.releaseQueue
          stragglers := t.egress.stragglers
          rx := s.part.egress.rx.hunt }
        control := { s.part.control with
          rx := s.part.control.rx.hunt
          queue := t.control.queue
          refusal := t.control.refusal
          notice := none
          unanswered := t.control.unanswered }
        attention := { s.part.attention with attn := false } } ∧
      (∀ l, t.lane l = { s.part.lane l with
        rx := (s.part.lane l).rx.hunt
        claimed := none
        counters := { (s.part.lane l).counters with
          abandoned :=
            if (s.part.lane l).rx.receiving then bump (s.part.lane l).counters.abandoned
            else (s.part.lane l).counters.abandoned } }) ∧
      (let cut := [0, 1, 2, 3].flatMap (fun l =>
          if (s.part.lane l).rx.receiving then (s.part.lane l).claimed.toList else [])
       (cut = [] → t.store = s.part.store) ∧ (cut ≠ [] → Returned cut s.part.store t.store)) ∧
      (s.part.egress.inFlight = none →
        t.egress.releaseQueue = s.part.egress.releaseQueue ∧ t.egress.stragglers = s.part.egress.stragglers) ∧
      (∀ f r q, s.part.egress.inFlight = some f → f.kind = .set → s.part.egress.releaseQueue = r :: q →
        t.egress.releaseQueue = { r with send := .resend } :: q ∧ t.egress.stragglers = s.part.egress.stragglers) ∧
      (∀ f r q, s.part.egress.inFlight = some f → f.kind = .strag → s.part.egress.stragglers = r :: q →
        t.egress.stragglers = { r with send := .resend } :: q ∧ t.egress.releaseQueue = s.part.egress.releaseQueue) ∧
      (∀ x ∈ t.control.queue, x ∈ s.part.control.queue ∧ x.state ≠ .waiting) ∧
      (s.part.control.sends .entry = false →
        t.control.queue = s.part.control.queue.filter (fun x => decide (x.state = .executing))) ∧
      (∀ a x b, s.part.control.sends .entry = true → s.part.control.queue = a ++ x :: b →
        (∀ y ∈ a, y.state.isReplying = false) → x.state.isReplying = true →
        t.control.queue = a.filter (fun y => decide (y.state = .executing)) ++
          x :: b.filter (fun y => decide (y.state = .executing))) ∧
      t.control.refusal = (if s.part.control.sends .refusal then s.part.control.refusal else none) ∧
      t.control.unanswered = bumpBy
        ((s.part.control.queue.length - t.control.queue.length) +
          (s.part.control.refusal.toList.length - t.control.refusal.toList.length)) s.part.control.unanswered))

/-- R79, R121, R150, R168, R177: ISOLATE removed lets the engine run if part time is set, with its strobe label from
part time and the passed labels that have no entry counted in skipped, with EGRESS. Each OPEN entry that is passed with
nothing outstanding, or whose deadline part time has reached, becomes DUE, the latter with its misses (stated where at
most one stream at a time becomes STALE by them); where a stream that becomes STALE is withdrawn, the deadline as it then
stands decides (R20, log 42), so that afterwards no expiry is due, and none was delivered before its deadline; releases
follow. One notice is handed if an enabled cause is pending. The Set Link starts what it may, a RESEND record first, and
each lane tests R114. Ports, Time Base, sorter and requests stay. The order among the blocks is DEDUCED (log 10: raises
of the table hand no notice of their own, LANE for a HOLD that starts comes after the notice); ISOLATE not asserted
changes nothing (log 5). The model's choices: R79 counts each passed label later than the horizon with no entry, and of
these the model leaves out the labels that have left before, those sealed (log 41) and those dropped for an earlier one
(log 37); the misses arrive within the event (log 49). -/
def Obligations.IsolateRemovedResumes : Prop :=
  ∀ s : State,
    (s.part.pins.isolate = false → s.part.filing = none → exec .isolateRemoved s = .next s) ∧
    (s.part.pins.isolate = true → s.part.Ready → Completes .isolateRemoved s (fun t =>
      let g := s.part.engine
      let pend := t.attention.pending
      let mask := t.attention.mask
      let expires := fun (e : Epoch) => decide (e.state = .opened) && s.part.deadlineReached e
      let missed := fun (i n : Nat) =>
        g.entries.countP (fun e => expires e && e.outstanding.any (fun y => y.index == i && y.number == n))
      t = { s.part with
        pins := { s.part.pins with isolate := false }
        streams := t.streams
        engine := t.engine
        lanes := t.lanes
        store := t.store
        egress := t.egress
        control := { s.part.control with inFlight := t.control.inFlight, notice := t.control.notice }
        attention := t.attention } ∧
      -- the engine and its strobe label
      ((g.mode = .frozen →
          t.engine.mode = (if s.part.timeBase.partTime.isSome then .run else .idle) ∧
          t.engine.strobe = s.part.timeBase.partTime.map (fun x => g.labelAfter x)) ∧
        (g.mode ≠ .frozen → t.engine.mode = g.mode) ∧
        (∀ l x, g.mode = .frozen → g.strobe = some l → s.part.timeBase.partTime = some x →
          t.engine.counters.skipped = bumpBy (s.part.labelsMissed l (x.firstLabel s.part.fo)) g.counters.skipped ∧
          pend.egress =
            (s.part.attention.pending.egress || decide (s.part.labelsMissed l (x.firstLabel s.part.fo) ≠ 0)))) ∧
      -- entries that fall due, their misses, and the releases
      ((∀ x, s.part.WindowOrdered → g.mode = .frozen → g.strobe.isSome = true → s.part.timeBase.partTime = some x →
          (∀ e ∈ g.entries, e.state = .opened →
            e.label.lt (g.labelAfter x) = true → e.counts.allZero = true ∨ (s.part.deadlineReached e = true ∧
              ∀ w ∈ g.cfg.waits.toList, x.reachesAfter s.part.fo e.label w = true) →
            ∀ z ∈ t.engine.entries, z.label = e.label → z.state = .due) ∧
          (∀ z ∈ t.engine.entries, t.expiryDue z = false) ∧ FellDueByRule s.part t ∧
          ((∀ e ∈ g.entries, (e.outstanding.map Expected.index).Nodup ∧
              (e.state = .opened → e.counts.allZero = true → e.outstanding = [])) →
            ((∀ i st, s.part.stream i = some st → st.state = .armed ∨ st.state = .live → missed i st.number ≠ 0 →
                min (st.missCount + missed i st.number) 255 < g.cfg.staleThreshold) →
              (∀ e ∈ g.entries, expires e = true → ∀ z ∈ t.engine.entries, z.label = e.label → z.state = .due) ∧
              ∀ i, t.stream i = (s.part.stream i).map (fun st => st.afterMisses (missed i st.number))) ∧
            (∀ e y st, g.entries.filter expires = [e] → e.outstanding = [y] → s.part.stream y.index = some st →
              st.number = y.number → st.state = .armed ∨ st.state = .live →
              g.cfg.staleThreshold ≤ min (st.missCount + 1) 255 →
              (∀ z ∈ t.engine.entries, z.label = e.label → z.state = .due) ∧
              pend.stream = true ∧ (t.streams.slot y.index).mark = true ∧
              ∃ z, t.stream y.index = some z ∧ z.state = .stale ∧ z.number = st.number))) ∧
        (t.engine.mode = .run → ∀ e, t.engine.entries.head? = some e → e.state = .due →
          32 ≤ t.egress.releaseQueue.length)) ∧
      -- the Set Link
      ((s.part.egress.inFlight.isSome = true → t.egress.inFlight = s.part.egress.inFlight) ∧
        (s.part.egress.inFlight = none → s.part.egress.pausedAt.isSome = true ∨ s.part.egress.hostHold = true →
          t.egress.inFlight = none) ∧
        (s.part.egress.inFlight = none → s.part.egress.pausedAt = none → s.part.egress.hostHold = false →
          (t.egress.inFlight = none ↔ t.egress.releaseQueue = [] ∧ t.egress.stragglers = []) ∧
          (∀ r q, s.part.egress.releaseQueue = r :: q → r.send = .resend → s.part.store.wf = true →
            t.egress.inFlight = some (setAsSent s.part.straps.node s.part.store r) ∧
            t.egress.releaseQueue.head? = some { r with send := .sending } ∧
            t.egress.arbiter = s.part.egress.arbiter ∧
            t.egress.counters.resent = bump s.part.egress.counters.resent) ∧
          (∀ r q, s.part.egress.stragglers = r :: q → r.send = .resend →
            (∀ x, s.part.egress.releaseQueue.head? = some x → x.send ≠ .resend) →
            (∃ f, t.egress.inFlight = some f ∧ f.kind = .strag) ∧
            t.egress.stragglers = { r with send := .sending } :: q ∧
            t.egress.arbiter = s.part.egress.arbiter ∧
            t.egress.counters.resent = bump s.part.egress.counters.resent))) ∧
      -- the lanes
      (∀ l, t.lane l = Lane.tested false (s.part.lane l)) ∧
      -- attention, and the one notice
      (pend = { s.part.attention.pending with lane := pend.lane, stream := pend.stream, egress := pend.egress } ∧
        (pend.lane = true ↔ s.part.attention.pending.lane = true ∨
          ∃ l, (s.part.lane l).deltas.any = false ∧ (t.lane l).deltas.any = true) ∧
        mask = s.part.attention.mask ∧ t.attention.attn = attnLevel t ∧
        t.attention.gateOpen = !(pend.inter mask).nonempty ∧
        (s.part.control.notice = none →
          let first := { pend with lane := s.part.attention.pending.lane }
          let named := if (first.inter mask).nonempty then first else pend
          ((pend.inter mask).nonempty = true →
            NoticeHanded (be 1 (named.inter mask).highest ++ be 1 named.code) s.part t) ∧
          ((pend.inter mask).nonempty = false →
            (s.part.control.inFlight.isSome = true → t.control = s.part.control) ∧
            (s.part.control.inFlight = none → Chosen s.part.straps.ctlRate s.part.control t.control))))))

/-- R115, R116, R173: a change of the reported line status sets the carrier delta, and LANE is raised when the lane's
delta set was empty; a looped lane sets no delta. A raise hands one notice under the conditions of R173, with the highest
enabled cause and the pending set: it waits, or CTL_TX chooses. A level that is there already does nothing (log 5). -/
def Obligations.CarrierChangeSetsDelta : Prop :=
  ∀ (s : State) (l : LaneId) (high : Bool), s.part.filing = none →
    (s.part.pins.carrier.get l = high → exec (.carrierChange l high) s = .next s) ∧
    (s.part.pins.carrier.get l ≠ high → (s.part.lane l).loopback = true →
      exec (.carrierChange l high) s = .next { s with part := s.part.setCarrier l high }) ∧
    (s.part.pins.carrier.get l ≠ high → (s.part.lane l).loopback = false → s.part.Ready →
      Completes (.carrierChange l high) s (fun t =>
        t = { (s.part.setCarrier l high).onLane l
            (fun x => { x with deltas := { x.deltas with carrier := true } }) with
          control := { s.part.control with inFlight := t.control.inFlight, notice := t.control.notice }
          attention := t.attention } ∧
        ((s.part.lane l).deltas.any = true → t.control = s.part.control ∧ t.attention = s.part.attention) ∧
        ((s.part.lane l).deltas.any = false → Raised .lane s.part t ∧
          (s.part.handsNotice .lane = false → t.control = s.part.control) ∧
          (s.part.handsNotice .lane = true → NoticeHanded
            (be 1 (t.attention.pending.inter t.attention.mask).highest ++ be 1 t.attention.pending.code) s.part t))))

/-! ### Reference Ports -/


/-- R7, R9: what a pulse leaves in its port, in every port state, whatever the Time Base does with it; the other port
stays. And the four tests of a pulse in their order, on a port that has a previous pulse, with the first reason that
fails. -/
def Obligations.PulseJudgedAndCounted : Prop :=
  (∀ (s : State) (r : RefPort), s.part.Ready → Completes (.pulse r) s (fun t =>
    let x := s.part.port r
    let now := s.part.clock
    t.port r.other = s.part.port r.other ∧ t.clock = now ∧ t.pins = s.part.pins ∧ t.straps = s.part.straps ∧
    t.lastReset = s.part.lastReset ∧ t.sorter = s.part.sorter ∧ t.lanes = s.part.lanes ∧ t.timeBase.cfg = s.part.timeBase.cfg ∧
    (x.state = .silent → t.port r = { x with
      state := .acquiring
      goodCount := 0
      prevPulse := some now
      missingTaken := false
      lastAnnounced := x.held.bind (fun h => if h.locked then some h.second else none)
      held := none }) ∧
    (∀ why, x.state ≠ .silent → x.badReason s.part.timeBase.cfg.pulseTolerance now = some why → t.port r = { x with
      state := .acquiring
      goodCount := 0
      prevPulse := some now
      missingTaken := false
      lastAnnounced := x.held.map HeldMessage.second
      held := none
      pulseRecord := none
      lastBad := some why
      badSeconds := bump x.badSeconds }) ∧
    (∀ h, x.state ≠ .silent → x.badReason s.part.timeBase.cfg.pulseTolerance now = none → x.held = some h →
      t.port r = { x with
        state := if x.state = .qualified ∨ s.part.timeBase.cfg.qualifyCount ≤ min (x.goodCount + 1) 16 then
          .qualified else .acquiring
        goodCount := min (x.goodCount + 1) 16
        prevPulse := some now
        missingTaken := false
        lastAnnounced := some h.second
        held := none
        pulseRecord := some ⟨h.second, now⟩
        goodSeconds := bump x.goodSeconds }))) ∧
  (∀ (x : Port) (tol now prev : Nat), x.prevPulse = some prev → prev ≤ now →
    let inTime := 1000000000 ≤ (now - prev) + tol * 1000 ∧ now - prev ≤ 1000000000 + tol * 1000
    (¬ inTime → x.badReason tol now = some .interval) ∧
    (inTime → x.held = none → x.badReason tol now = some .noMessage) ∧
    (∀ h, inTime → x.held = some h → (∀ a, x.lastAnnounced = some a → h.second ≠ a + 1) →
      x.badReason tol now = some .sequence) ∧
    (∀ h a, inTime → x.held = some h → x.lastAnnounced = some a → h.second = a + 1 → h.locked = false →
      x.badReason tol now = some .unlocked) ∧
    (∀ h a, inTime → x.held = some h → x.lastAnnounced = some a → h.second = a + 1 → h.locked = true →
      x.badReason tol now = none))

/-- R9, R12, R13, R15, R16, R21: what a pulse does to the Time Base. A port that changes state sets its delta; the loss
of the selected reference is a failover or HOLDOVER; a reference that qualifies ends UNSET or re-locks if it is
eligible; a good pulse of the selected reference is measured, and part time steps or is slewed, as it is after a
failover or a re-lock; a forward step brings a running engine every strobe and expiry it reaches, in either order (R18,
R70). The model's readings: slew in 20,000ths of a nanosecond (log 13); a step carries part time back from its largest
value too, and none carries it past that (log 34). -/
def Obligations.PulseMovesTimeBase : Prop :=
  ∀ (s : State) (r : RefPort), s.part.Ready → Completes (.pulse r) s (fun t =>
    let x := s.part.port r
    let b := s.part.timeBase
    let bad := x.badReason b.cfg.pulseTolerance s.part.clock
    (x.state = .silent → t.timeBase = { b with deltas := b.deltas.port r } ∧ Raised .time s.part t) ∧
    (x.state = .acquiring → bad.isSome = true →
      t = (s.part.onPort r (fun _ => t.port r))) ∧
    (x.state = .acquiring → bad = none → min (x.goodCount + 1) 16 < b.cfg.qualifyCount →
      t = (s.part.onPort r (fun _ => t.port r))) ∧
    (x.state = .acquiring → bad = none → b.cfg.qualifyCount ≤ min (x.goodCount + 1) 16 → b.state = .tracking →
      t.timeBase = { b with deltas := b.deltas.port r } ∧ Raised .time s.part t) ∧
    (∀ h, x.state = .acquiring → bad = none → b.cfg.qualifyCount ≤ min (x.goodCount + 1) 16 → b.state = .unset →
      x.held = some h → b.cfg.failover = true ∨ b.cfg.preferred = r →
      t.timeBase = { b with
        state := .tracking
        partTime := some (PartTime.ofNs (h.second * 1000000000))
        selected := some r
        offset := some 0
        slew := 0
        slewing := false
        deltas := { b.deltas.port r with state := true } } ∧ Raised .time s.part t ∧
      t.engine = (if s.part.engine.mode = .idle then
        { s.part.engine with
          mode := .run
          strobe := some (s.part.engine.labelAfter (PartTime.ofNs (h.second * 1000000000)))
          lastLabel := t.engine.lastLabel } else s.part.engine)) ∧
    (x.state = .acquiring → bad = none → b.cfg.qualifyCount ≤ min (x.goodCount + 1) 16 → b.state = .unset →
      b.cfg.failover = false → b.cfg.preferred ≠ r → t.timeBase = { b with deltas := b.deltas.port r }) ∧
    (∀ h pt, x.state = .acquiring → bad = none → b.cfg.qualifyCount ≤ min (x.goodCount + 1) 16 →
      b.state = .holdover ∨ b.state = .expired → b.partTime = some pt → x.held = some h →
      b.cfg.failover = true ∨ b.selected = some r ∨ b.cfg.preferred = r →
      Measured r (h.second * 1000000000) pt b { b.deltas.port r with state := true } s.part t) ∧
    (x.state = .acquiring → bad = none → b.cfg.qualifyCount ≤ min (x.goodCount + 1) 16 →
      b.state = .holdover ∨ b.state = .expired → b.cfg.failover = false → b.selected ≠ some r → b.cfg.preferred ≠ r →
      t.timeBase = { b with deltas := b.deltas.port r } ∧ Raised .time s.part t) ∧
    (x.state = .qualified → bad.isSome = true → b.state = .tracking → b.selected = some r →
      (b.cfg.failover = false ∨ (s.part.port r.other).state ≠ .qualified) →
      t.timeBase = { b with
        state := .holdover
        holdoverSeconds := 0
        holdoverEntry := s.part.clock
        deltas := { b.deltas.port r with state := true } } ∧ Raised .time s.part t) ∧
    (∀ k pt, x.state = .qualified → bad.isSome = true → b.state = .tracking → b.selected = some r →
      b.cfg.failover = true → (s.part.port r.other).state = .qualified →
      (s.part.port r.other).pulseRecord = some k → b.partTime = some pt →
      Measured r.other (k.second * 1000000000 + (s.part.clock - k.moment)) pt b (b.deltas.port r) s.part t) ∧
    (x.state = .qualified → bad.isSome = true → ¬ (b.state = .tracking ∧ b.selected = some r) →
      t.timeBase = { b with deltas := b.deltas.port r } ∧ Raised .time s.part t) ∧
    (x.state = .qualified → bad = none → ¬ (b.state = .tracking ∧ b.selected = some r) →
      t = (s.part.onPort r (fun _ => t.port r))) ∧
    (∀ h pt o, x.state = .qualified → bad = none → b.state = .tracking → b.selected = some r → x.held = some h →
      b.partTime = some pt → o = (pt.ns : Int) - (h.second * 1000000000 : Nat) →
      (o.natAbs ≤ b.cfg.stepThreshold * 1000 →
        t = { (s.part.onPort r (fun _ => t.port r)) with
          timeBase := { b with offset := some o, slew := o * 20000, slewing := decide (o ≠ 0) } }) ∧
      Measured r (h.second * 1000000000) pt b b.deltas s.part t))

/-- R8, R13, R16 to R18, R21: the two expiries of a port; where one brings a failover, the other reference is measured and
part time steps or is slewed. The model's readings: each that has not fallen due changes nothing (log 5);
a silence expiry that meets a port still QUALIFIED loses the selected reference as any departure does (log 30); slew in
20,000ths of a nanosecond (log 13); a step carries part time back from its largest value too, and none carries it past that
(log 34). -/
def Obligations.PortExpiriesFallDue : Prop :=
  ∀ (s : State) (r : RefPort) (prev : Nat), s.part.Ready →
    let x := s.part.port r
    let b := s.part.timeBase
    ((x.prevPulse = none ∨ x.state = .silent) →
      exec (.missingPulseExpiry r) s = .next s ∧ exec (.silenceExpiry r) s = .next s) ∧
    (x.prevPulse = some prev → (s.part.clock < prev + 1500000000 ∨ x.missingTaken = true) →
      exec (.missingPulseExpiry r) s = .next s) ∧
    (x.prevPulse = some prev → s.part.clock < prev + 3000000000 → exec (.silenceExpiry r) s = .next s) ∧
    (x.prevPulse = some prev → x.state ≠ .silent → prev + 1500000000 ≤ s.part.clock → x.missingTaken = false →
      Completes (.missingPulseExpiry r) s (fun t =>
        t.port r = { x with
          state := .acquiring
          goodCount := 0
          missingTaken := true
          lastAnnounced := none
          held := none
          pulseRecord := none
          lastBad := some .missing
          badSeconds := bump x.badSeconds
          missingPulses := bump x.missingPulses } ∧
        (x.state = .acquiring → t = s.part.onPort r (fun _ => t.port r)) ∧
        (x.state = .qualified → ¬ (b.state = .tracking ∧ b.selected = some r) →
          t = { (s.part.onPort r (fun _ => t.port r)) with
            timeBase := { b with deltas := b.deltas.port r }, control := t.control, attention := t.attention } ∧
          Raised .time s.part t) ∧
        (x.state = .qualified → b.state = .tracking → b.selected = some r →
          (b.cfg.failover = false ∨ (s.part.port r.other).state ≠ .qualified) →
          t = { (s.part.onPort r (fun _ => t.port r)) with
            timeBase := { b with
              state := .holdover
              holdoverSeconds := 0
              holdoverEntry := s.part.clock
              deltas := { b.deltas.port r with state := true } }
            control := t.control
            attention := t.attention } ∧ Raised .time s.part t) ∧
        (∀ k pt, x.state = .qualified → b.state = .tracking → b.selected = some r → b.cfg.failover = true →
          (s.part.port r.other).state = .qualified → (s.part.port r.other).pulseRecord = some k → b.partTime = some pt →
          Measured r.other (k.second * 1000000000 + (s.part.clock - k.moment)) pt b (b.deltas.port r) s.part t))) ∧
    (x.prevPulse = some prev → x.state = .acquiring → prev + 3000000000 ≤ s.part.clock →
      Completes (.silenceExpiry r) s (fun t =>
        t = { (s.part.onPort r (fun x => { x with
            state := .silent
            goodCount := 0
            prevPulse := none
            missingTaken := false
            lastAnnounced := none })) with
          timeBase := { b with deltas := b.deltas.port r }, control := t.control, attention := t.attention } ∧
        Raised .time s.part t)) ∧
    (x.prevPulse = some prev → x.state = .qualified → prev + 3000000000 ≤ s.part.clock →
      Completes (.silenceExpiry r) s (fun t =>
        t.port r = { x with
          state := .silent
          goodCount := 0
          prevPulse := none
          missingTaken := false
          lastAnnounced := none } ∧
        (¬ (b.state = .tracking ∧ b.selected = some r) →
          t = { (s.part.onPort r (fun _ => t.port r)) with
            timeBase := { b with deltas := b.deltas.port r }, control := t.control, attention := t.attention } ∧
          Raised .time s.part t) ∧
        (b.state = .tracking → b.selected = some r →
          (b.cfg.failover = false ∨ (s.part.port r.other).state ≠ .qualified) →
          t = { (s.part.onPort r (fun _ => t.port r)) with
            timeBase := { b with
              state := .holdover
              holdoverSeconds := 0
              holdoverEntry := s.part.clock
              deltas := { b.deltas.port r with state := true } }
            control := t.control
            attention := t.attention } ∧ Raised .time s.part t) ∧
        (∀ k pt, b.state = .tracking → b.selected = some r → b.cfg.failover = true →
          (s.part.port r.other).state = .qualified → (s.part.port r.other).pulseRecord = some k → b.partTime = some pt →
          Measured r.other (k.second * 1000000000 + (s.part.clock - k.moment)) pt b (b.deltas.port r) s.part t)))

/-- R6, R109, R110, R187: what a byte on a TMSG input does. A whole TIME message of six bytes is accepted; a shorter
one, one of another kind, one too long and one with a bad check are counted. Where one is given up, the bytes after its
lead byte are taken again, as if they arrived then; with no lead byte among them the receiver is left hunting. An
envelope that is stepped over retains no bytes (the model's choice, log 43). -/
def Obligations.TimeLineBytes : Prop :=
  ∀ (s : State) (r : RefPort) (b : Byte), s.part.Ready →
    let x := s.part.port r
    let ret := x.rx.retained ++ [b]
    let now := s.part.clock
    let hunting := (x.rx.heard now 10000000).hunt
    let becomes := fun (i : Instr) (y : Port) => exec i s = .next { s with part := s.part.onPort r (fun _ => y) }
    let counted : Port := { x with rx := hunting, messageErrors := bump x.messageErrors }
    let givenUp :=
      ((∀ y ∈ ret.tail, y ≠ leadByte) → becomes (.timeMessageError r b) counted) ∧
      exec (.timeMessageError r b) s =
        runAll (ret.tail.map (.tmsgByte r)) { s with part := s.part.onPort r (fun _ => counted) }
    (x.rx.phase = .body 6 → ret.length = 13 → checkGood 6 ret →
      becomes (.timeMessage r b) { x with
        rx := hunting
        held := some ⟨field ret 5 4, (byteAt ret 9).getLsbD 0, (byteAt ret 10).toNat % 16⟩
        report := some ⟨(byteAt ret 9).getLsbD 0, (byteAt ret 10).toNat % 16⟩ }) ∧
    (∀ n, n < 6 → x.rx.phase = .body n → ret.length = 7 + n → checkGood n ret →
      becomes (.timeMessageError r b) { x with rx := hunting, messageErrors := bump x.messageErrors }) ∧
    (∀ n, n ≤ 6 → x.rx.phase = .body n → ret.length = 7 + n → ¬ checkGood n ret → givenUp) ∧
    (x.rx.phase = .header → ret.length = 5 → 6 < field ret 2 3 → givenUp) ∧
    (x.rx.phase = .header → ret.length = 5 → field ret 2 3 ≤ 6 → byteAt ret 1 ≠ kindTime →
      becomes (.timeMessageError r b) { x with
        rx := ⟨.skip (field ret 2 3 + 2), [], now, 10000000⟩
        messageErrors := bump x.messageErrors }) ∧
    (x.rx.phase = .header → ret.length = 5 → field ret 2 3 ≤ 6 → byteAt ret 1 = kindTime →
      becomes (.tmsgByte r b) { x with rx := ⟨.body (field ret 2 3), ret, now, 10000000⟩ }) ∧
    (x.rx.phase = .header → ret.length < 5 → becomes (.tmsgByte r b) { x with rx := ⟨.header, ret, now, 10000000⟩ }) ∧
    (x.rx.phase = .seek → b = leadByte → becomes (.tmsgByte r b) { x with rx := ⟨.header, [b], now, 10000000⟩ }) ∧
    (x.rx.phase = .seek → b ≠ leadByte → becomes (.tmsgByte r b) { x with rx := x.rx.heard now 10000000 }) ∧
    (∀ n, x.rx.phase = .body n → ret.length < 7 + n →
      becomes (.tmsgByte r b) { x with rx := ⟨.body n, ret, now, 10000000⟩ }) ∧
    (∀ n, x.rx.phase = .skip n → 1 < n →
      becomes (.tmsgByte r b) { x with rx := ⟨.skip (n - 1), x.rx.retained, now, 10000000⟩ }) ∧
    (∀ n, x.rx.phase = .skip n → n ≤ 1 → becomes (.tmsgByte r b) { x with rx := hunting })

/-- R6, R110, R145, R156: a gap expiry abandons the envelope without a rescan and the receiver hunts. It is counted in
message errors, in HEADER_ERROR or FRAME_TIMEOUT (the frame's buffer is returned), in return errors, in envelope errors;
an envelope being stepped over has been counted already (stated for the lanes in R110; DEDUCED for the others, log 14).
One that has not fallen due changes nothing (the model's choice, log 5). -/
def Obligations.GapExpiriesAbandon : Prop :=
  ∀ s : State, s.part.Ready →
    (∀ r, ((s.part.port r).rx.gapDue s.part.clock = false → exec (.tmsgGapExpiry r) s = .next s) ∧
      ((s.part.port r).rx.gapDue s.part.clock = true → exec (.tmsgGapExpiry r) s =
        .next { s with part := s.part.onPort r (fun x => { x with
          rx := x.rx.hunt
          messageErrors := if x.rx.skipping then x.messageErrors else bump x.messageErrors }) })) ∧
    (∀ l, ((s.part.lane l).rx.gapDue s.part.clock = false → exec (.laneGapExpiry l) s = .next s) ∧
      ((s.part.lane l).rx.gapDue s.part.clock = true → (s.part.lane l).rx.receiving = false →
        exec (.laneGapExpiry l) s = .next { s with part := s.part.onLane l (fun x => { x with
          rx := x.rx.hunt
          claimed := none
          counters := { x.counters with
            headerError := if x.rx.skipping then x.counters.headerError else bump x.counters.headerError } }) }) ∧
      ((s.part.lane l).rx.gapDue s.part.clock = true → (s.part.lane l).rx.receiving = true →
        Completes (.laneGapExpiry l) s (fun t =>
          t = { (s.part.onLane l (fun x => { x with
            rx := x.rx.hunt
            claimed := none
            counters := { x.counters with frameTimeout := bump x.counters.frameTimeout } })) with store := t.store } ∧
          ReturnedIf (s.part.lane l).claimed s.part.store t.store))) ∧
    ((s.part.egress.rx.gapDue s.part.clock = false → exec .returnGapExpiry s = .next s) ∧
      (s.part.egress.rx.gapDue s.part.clock = true → exec .returnGapExpiry s =
        .next { s with part := { s.part with egress := { s.part.egress with
          rx := s.part.egress.rx.hunt
          counters := { s.part.egress.counters with
            returnErrors := if s.part.egress.rx.skipping then s.part.egress.counters.returnErrors
              else bump s.part.egress.counters.returnErrors } } } })) ∧
    ((s.part.control.rx.gapDue s.part.clock = false → exec .controlGapExpiry s = .next s) ∧
      (s.part.control.rx.gapDue s.part.clock = true → exec .controlGapExpiry s =
        .next { s with part := { s.part with control := { s.part.control with
          rx := s.part.control.rx.hunt
          envelopeErrors := if s.part.control.rx.skipping then s.part.control.envelopeErrors
            else bump s.part.control.envelopeErrors } } }))

/-! ### Time Base -/

/-- R14, R17: each whole second of holdover is counted, and the first beyond the limit makes HOLDOVER EXPIRED; a slew that
has been removed ends. What has not fallen due changes nothing (the model's choice, log 5). -/
def Obligations.HoldoverIsCountedAndSlewEnds : Prop :=
  ∀ s : State, s.part.Ready →
    let b := s.part.timeBase
    let due := (b.state = .holdover ∨ b.state = .expired) ∧ b.holdoverSeconds < counterMax ∧
      b.holdoverEntry + (b.holdoverSeconds + 1) * 1000000000 ≤ s.part.clock
    (¬ due → exec .holdoverSecond s = .next s) ∧
    (due → b.state = .holdover → b.holdoverSeconds + 1 ≤ b.cfg.holdoverLimit → exec .holdoverSecond s =
      .next { s with part := { s.part with timeBase := { b with holdoverSeconds := b.holdoverSeconds + 1 } } }) ∧
    (due → b.state = .expired → exec .holdoverSecond s =
      .next { s with part := { s.part with timeBase := { b with holdoverSeconds := b.holdoverSeconds + 1 } } }) ∧
    (due → b.state = .holdover → b.cfg.holdoverLimit < b.holdoverSeconds + 1 →
      Completes .holdoverSecond s (fun t =>
        t = { s.part with
          timeBase := { b with
            state := .expired
            holdoverSeconds := b.holdoverSeconds + 1
            deltas := { b.deltas with state := true } }
          control := t.control
          attention := t.attention } ∧ Raised .time s.part t)) ∧
    (b.slewing = true → b.slew = 0 → exec .slewEnd s =
      .next { s with part := { s.part with timeBase := { b with slewing := false } } }) ∧
    (b.slewing = false ∨ b.slew ≠ 0 → exec .slewEnd s = .next s)


/-- R12, R15, R16, R21, R23, R71: the six parameters as the request carries them; a value out of range is refused. An
accepted request puts them in force; a port whose good count has reached the new qualify count becomes QUALIFIED, with its
delta and TIME; a TRACKING Time Base keeps its selection and its measurement. Otherwise the reference taken is the
preferred one if it is QUALIFIED, or else the other if it is QUALIFIED and automatic failover is on or, in HOLDOVER and
EXPIRED, it is the one that was lost. With none to take, a HOLDOVER beyond the new limit is EXPIRED, and the Time Base
stays as it is in every other case. A Time Base in HOLDOVER or EXPIRED re-locks to the reference taken, which is measured
under the new threshold. One that is UNSET starts on it: part time is its reference time, and an IDLE engine enters RUN
with its strobe label at the first label after part time. The model's readings: slew in 20,000ths of a nanosecond (log
13); a step carries part time back from its largest value too, and none carries it past that (log 34). -/
def Obligations.ConfigureReferenceTakesEffect : Prop :=
  ∀ (s : State) (e : RequestEntry), s.part.Runs 0x11 e → e.params.length = 13 →
    let c : RefConfig := ⟨field e.params 0 1, field e.params 1 2, field e.params 3 4, field e.params 7 4,
      if byteAt e.params 11 = 0 then .A else .B, byteAt e.params 12 = 1⟩
    let ok := 2 ≤ c.qualifyCount ∧ c.qualifyCount ≤ 16 ∧ 1 ≤ c.pulseTolerance ∧ c.pulseTolerance ≤ 1000 ∧
      1 ≤ c.holdoverLimit ∧ c.holdoverLimit ≤ 86400 ∧ 10 ≤ c.stepThreshold ∧ c.stepThreshold ≤ 1000000 ∧
      (byteAt e.params 11).toNat ≤ 1 ∧ (byteAt e.params 12).toNat ≤ 1
    let b := s.part.timeBase
    let exceeded := c.holdoverLimit < b.holdoverSeconds
    let promoted := fun r => (s.part.port r).state = .acquiring ∧ c.qualifyCount ≤ (s.part.port r).goodCount
    let ready := fun r => (s.part.port r).state = .qualified ∨ promoted r
    let eligible := fun r => ready r ∧
      (r = c.preferred ∨ c.failover = true ∨ (b.state ≠ .unset ∧ b.selected = some r))
    let taken := fun r => eligible r ∧ (r = c.preferred ∨ ¬ ready c.preferred)
    let deltas : TimeDeltas := { b.deltas with
      a := b.deltas.a || decide (promoted .A), b := b.deltas.b || decide (promoted .B) }
    let refTime := fun (m : PulseRecord) => m.second * 1000000000 + (s.part.clock - m.moment)
    (¬ ok → Refuses .configureReference e .range s) ∧
    (ok → Completes .configureReference s (fun t =>
      Answered e .done [] s.part t ∧ t.timeBase.cfg = c ∧ t.lanes = s.part.lanes ∧ t.sorter = s.part.sorter ∧
      (∀ r, t.port r = { s.part.port r with
        state := if promoted r then .qualified else (s.part.port r).state }) ∧
      ((∃ r, promoted r) → t.attention.pending.time = true) ∧
      -- TRACKING, or no reference to take
      (b.state = .tracking ∨ (∀ r, ¬ eligible r) →
        t = { s.part with
          portA := t.portA
          portB := t.portB
          timeBase := { b with
            cfg := c
            state := if b.state = .holdover ∧ exceeded then .expired else b.state
            deltas := { deltas with state := deltas.state || decide (b.state = .holdover ∧ exceeded) } }
          attention := t.attention
          control := t.control } ∧
        (b.state = .holdover → exceeded → t.attention.pending.time = true)) ∧
      -- HOLDOVER or EXPIRED, with a reference to take
      (∀ r, b.state = .holdover ∨ b.state = .expired → taken r →
        t.timeBase.state = .tracking ∧ t.timeBase.selected = some r ∧ t.attention.pending.time = true ∧
        ∀ m pt, (s.part.port r).pulseRecord = some m → b.partTime = some pt →
          Measured r (refTime m) pt { b with cfg := c } { deltas with state := true } s.part t) ∧
      -- UNSET, with a reference to take
      (∀ r m, b.state = .unset → taken r → (s.part.port r).pulseRecord = some m →
        t = { s.part with
          portA := t.portA
          portB := t.portB
          timeBase := { b with
            cfg := c
            state := .tracking
            partTime := some (PartTime.ofNs (refTime m))
            selected := some r
            offset := some 0
            slew := 0
            slewing := false
            deltas := { deltas with state := true } }
          engine := if s.part.engine.mode = .idle then
            { s.part.engine with
              mode := .run
              strobe := some (s.part.engine.labelAfter (PartTime.ofNs (refTime m)))
              lastLabel := t.engine.lastLabel } else s.part.engine
          attention := t.attention
          control := t.control } ∧
        t.attention.pending.time = true)))

/-- R12, R24, R71: SELECT_REFERENCE of a reference that is not QUALIFIED is refused; of one that is, it becomes the
selected reference at once: from UNSET part time is set, and an IDLE engine enters RUN with its strobe label at the first
label after part time; otherwise it is measured, and part time steps or is slewed; a forward step brings a running engine
every strobe and expiry it reaches, in either order (R18, R70). The model's readings: slew in 20,000ths of a nanosecond
(log 13); a step carries part time back from its largest value too, and none carries it past that (log 34). -/
def Obligations.SelectReferenceSelects : Prop :=
  ∀ (s : State) (e : RequestEntry) (k : Byte) (r : RefPort), s.part.Runs 0x12 e → e.params = [k] →
    let b := s.part.timeBase
    (2 ≤ k.toNat → Refuses .selectReference e .range s) ∧
    (k.toNat = portCode r → (s.part.port r).state ≠ .qualified → Refuses .selectReference e .unqualified s) ∧
    (∀ m, k.toNat = portCode r → (s.part.port r).state = .qualified → (s.part.port r).pulseRecord = some m →
      Completes .selectReference s (fun t => Answered e .done [] s.part t ∧
        let n := m.second * 1000000000 + (s.part.clock - m.moment)
        t.timeBase.selected = some r ∧ t.timeBase.state = .tracking ∧ t.portA = s.part.portA ∧ t.portB = s.part.portB ∧
        (b.state = .unset → t.timeBase = { b with
            state := .tracking
            partTime := some (PartTime.ofNs n)
            selected := some r
            offset := some 0
            slew := 0
            slewing := false
            deltas := { b.deltas with state := true } } ∧ Raised .time s.part t ∧
          t.engine = (if s.part.engine.mode = .idle then
            { s.part.engine with
              mode := .run
              strobe := some (s.part.engine.labelAfter (PartTime.ofNs n))
              lastLabel := t.engine.lastLabel } else s.part.engine)) ∧
        (∀ pt, b.state ≠ .unset → b.partTime = some pt →
          Measured r n pt b { b.deltas with state := b.deltas.state || decide (b.state ≠ .tracking) } s.part t)))

/-! ### Stream Table -/

/-- R22, R44, R45, R48, R80, R102, R119, R132, R153, R171: what each reading request reports, and what it clears: the
causes TIME (with the four deltas), POOL, EGRESS and STRANGER; LANE once no lane has a delta left; STREAM once no change
mark is left. Counters stay, and nothing else moves. READ_SORTER and READ_WINDOW change nothing; READ_WINDOW refuses a
tick that no label has and a label that has no entry. The model's readings: part time and slew are reported toward zero
(log 13), a DUE entry keeps its deadline (log 17), a part millisecond of a pause is dropped (log 44), and the presence
bytes of absent results (log 16). Each reply is written out field by field; an optional result is 0 where it is absent,
and 1 and the result where it is present (opt), a yes or no one byte (flag). -/
def Obligations.ReadsReportAndClear : Prop :=
  (((∀ (s : State) (e : RequestEntry), s.part.Runs 0x48 e → e.params = [] →
    Completes .readPool s (fun t =>
      let q := s.part.store
      let held := fun (x : BufState) => be 2 (q.buffers.countP (fun b => b.2.state = x))
      Answered e .done
        (be 2 q.freeList.length ++ be 2 q.lowestFree ++
          (be 2 q.freeList.length ++ held .filling ++ held .queued ++ held .filed ++ held .released ++ held .straggling ++
            held .sweeping ++ held .retired) ++
          held .retired ++ be 2 q.lowMark ++ flag q.below ++ be 4 q.corrections ++ be 4 q.damagedReads ++
          be 4 q.claimsFailed ++ flag q.sweep.running ++ be 2 q.sweep.next ++ be 2 q.sweep.tested ++
          be 2 q.sweep.passed ++ be 2 q.sweep.retired ++ be 2 q.sweep.skipped) s.part t ∧
      Cleared .pool s.part t ∧
      t = { s.part with
        store := { s.part.store with lowestFree := s.part.store.freeList.length }
        attention := t.attention
        control := t.control })) ∧
  (∀ (s : State) (e : RequestEntry), s.part.Runs 0x53 e → e.params = [] →
    Completes .readEgress s (fun t =>
      let q := s.part.egress
      let c := q.counters
      let stopped := q.pausedAt.isSome || q.hostHold || s.part.pins.isolate
      let sending :=
        match q.inFlight, q.releaseQueue, q.stragglers with
        | some ⟨.set, _⟩, r :: _, _ => [0x01#8, 0x00#8] ++ labelBytes r.label
        | some ⟨.strag, _⟩, _, r :: _ => [0x01#8, 0x01#8] ++ be 4 r.number ++ labelBytes r.label
        | _, _, _ => [0x00#8]
      Answered e .done
        (be 1 (if q.inFlight.isSome then 1 else if stopped then 2 else 0) ++ sending ++
          flag (q.releaseQueue.any (fun r => decide (r.send = .resend)) ||
            q.stragglers.any (fun r => decide (r.send = .resend))) ++
          opt (fun began => be 4 (min ((s.part.clock - began) / 1000000) 4294967295)) q.pausedAt ++
          flag q.hostHold ++ flag s.part.pins.isolate ++ be 2 q.pauseLimit ++ be 2 q.releaseQueue.length ++
          opt labelBytes (q.releaseQueue.head?.map SetRecord.label) ++
          opt labelBytes (q.releaseQueue.getLast?.map SetRecord.label) ++ be 2 q.stragglers.length ++
          be 1 q.arbiter ++ be 4 c.setsSent ++ be 4 c.stragglersSent ++ be 4 c.stragglerOverflow ++
          be 4 c.pauseOverrides ++ be 4 c.resent ++ be 4 c.returnErrors ++ be 4 s.part.engine.counters.dropped ++
          be 4 s.part.engine.counters.reinitDropped ++ be 4 s.part.engine.counters.skipped) s.part t ∧
      Cleared .egress s.part t ∧
      t = { s.part with attention := t.attention, control := t.control })) ∧
  (∀ (s : State) (e : RequestEntry), s.part.Runs 0x27 e → e.params = [] →
    Completes .readStrangers s (fun t =>
      Answered e .done (be 1 s.part.streams.strangers.length ++
        s.part.streams.strangers.flatMap (fun x =>
          be 4 x.number ++ be 1 x.lane.val ++ labelBytes x.label ++ be 2 x.seen) ++
        be 4 s.part.streams.unlisted) s.part t ∧ Cleared .stranger s.part t ∧
      t = { s.part with
        streams := { s.part.streams with strangers := [] }, attention := t.attention, control := t.control })) ∧
  (∀ (s : State) (e : RequestEntry) (k : Byte), s.part.Runs 0x41 e → e.params = [k] →
    (4 ≤ k.toNat → Refuses .readLane e .range s) ∧
    (∀ l : LaneId, k.toNat = l.val → Completes .readLane s (fun t =>
      let x := s.part.lane l
      let c := x.counters
      Answered e .done
        (be 1 l.val ++ flag x.enabled ++ be 1 (if x.enabled = false then 0 else if x.rx.receiving then 2 else 1) ++
          flag x.loopback ++ be 1 (if x.loopback then 2 else if s.part.pins.carrier.get l then 0 else 1) ++
          be 1 x.flow.code ++ opt (fun f => be 1 (FlowKind.code f)) x.lastFlow ++ be 2 x.queue.length ++ be 2 x.peak ++
          be 1 x.highMark ++ be 1 x.lowMark ++ be 1 x.gapMs ++ flag x.deltas.carrier ++ flag x.deltas.overrun ++
          flag x.deltas.hold ++ be 4 c.frames ++ be 4 c.unexpectedKind ++ be 4 c.headerError ++ be 4 c.checkError ++
          be 4 c.frameTimeout ++ be 4 c.poolEmpty ++ be 4 c.overrun ++ be 4 c.abandoned ++ be 4 c.holdSent ++
          be 4 c.goSent) s.part t ∧
      t = { s.part.onLane l (fun x => { x with deltas := ⟨false, false, false⟩, peak := x.queue.length }) with
        attention := t.attention, control := t.control } ∧
      ((∀ m, m ≠ l → (s.part.lane m).deltas = ⟨false, false, false⟩) → Cleared .lane s.part t) ∧
      ((∃ m, m ≠ l ∧ (s.part.lane m).deltas ≠ ⟨false, false, false⟩) → t.attention = s.part.attention)))) ∧
  (∀ (s : State) (e : RequestEntry), s.part.Runs 0x26 e → e.params = [] →
    Completes .readChanges s (fun t =>
      let marked := s.part.streams.slots.filter (fun x => x.2.mark)
      Answered e .done (be 1 (min marked.length 32) ++
        (marked.take 32).flatMap (fun x => be 2 x.1 ++ be 1 (match x.2.stream with
          | none => 0
          | some z => z.state.code)) ++
        be 2 (marked.length - 32)) s.part t ∧
      t = { s.part with
        streams := { s.part.streams with slots := t.streams.slots }, attention := t.attention, control := t.control } ∧
      (marked.length ≤ 32 → Cleared .stream s.part t) ∧ (32 < marked.length → t.attention = s.part.attention) ∧
      (s.part.streams.wf = true →
        (∀ x ∈ marked.take 32, t.streams.slot x.1 = ⟨x.2.stream, false⟩) ∧
        (∀ i, (∀ x ∈ marked.take 32, x.1 ≠ i) → t.streams.slot i = s.part.streams.slot i))))) ∧
  ((∀ (s : State) (e : RequestEntry), s.part.Runs 0x38 e → e.params = [] →
    Completes .readSorter s (fun t =>
      let x := s.part.sorter
      let c := x.discards
      let fill := fun (l : LaneId) => be 2 (s.part.lane l).queue.length
      Answered e .done
        (be 1 x.pointer.val ++ be 1 s.part.engine.mode.code ++ (fill 0 ++ fill 1 ++ fill 2 ++ fill 3) ++ be 4 x.sorted ++
          be 4 x.filed ++ be 4 x.filedTardy ++ be 4 x.openedEarly ++ be 4 x.forwarded ++ be 4 c.noTime ++ be 4 c.reinit ++
          be 4 c.malformed ++ be 4 c.stranger ++ be 4 c.suspended ++ be 4 c.retired ++ be 4 c.layoutMismatch ++
          be 4 c.offGrid ++ be 4 c.decimated ++ be 4 c.late ++ be 4 c.ahead ++ be 4 c.duplicate ++ be 4 c.windowFull ++
          be 4 c.noEpoch) s.part t ∧
      t = { s.part with control := t.control })) ∧
  (∀ (s : State) (e : RequestEntry), s.part.Runs 0x32 e →
    let g := s.part.engine
    let c := g.counters
    let four := fun (x : Four Nat) => be 2 x.a0 ++ be 2 x.a1 ++ be 2 x.a2 ++ be 2 x.a3
    let entry := fun (x : Epoch) =>
      labelBytes x.label ++ be 1 x.state.code ++ be 1 x.openedBy.code ++ be 2 x.expected.length ++
        be 2 (x.expected.countP Expected.withdrawn) ++ be 2 x.members.length ++ be 2 (x.members.countP Member.tardy) ++
        be 2 (x.members.countP Member.extra) ++ four x.counts ++ opt (be 2) x.deadline
    let reports := fun (x : Option Epoch) => Completes .readWindow s (fun t =>
      Answered e .done
        (be 1 g.mode.code ++ opt labelBytes g.strobe ++ opt labelBytes g.horizon ++ be 2 g.entries.length ++
          be 2 (g.entries.countP (fun y => y.state = .opened)) ++ be 2 (g.entries.countP (fun y => y.state = .due)) ++
          opt labelBytes (g.entries.head?.map Epoch.label) ++ opt labelBytes (g.entries.getLast?.map Epoch.label) ++
          opt entry x ++
          (be 1 g.cfg.fo ++ four g.cfg.waits ++ be 2 g.cfg.tolerance ++ be 1 g.cfg.staleThreshold ++
            be 1 g.cfg.voidPolicy.code ++ flag g.cfg.forwarding) ++
          (be 4 c.opened ++ be 4 c.released ++ be 4 c.dropped ++ be 4 c.skipped ++ be 4 c.suppressedVoid ++
            be 4 c.flushed ++ be 4 c.reinitReleased ++ be 4 c.reinitDropped ++ be 4 c.evictedEarly)) s.part t ∧
      t = { s.part with control := t.control })
    (e.params = [] → reports g.entries.head?) ∧
    (e.params.length = 6 →
      let l : Label := ⟨field e.params 0 4, field e.params 4 2⟩
      (g.cfg.fo ≤ l.tick → Refuses .readWindow e .range s) ∧
      (l.tick < g.cfg.fo → (∀ x ∈ g.entries, x.label ≠ l) → Refuses .readWindow e .absent s) ∧
      (∀ x, l.tick < g.cfg.fo → s.part.epoch l = some x → reports (some x)))))) ∧
  ([PortState.silent, .acquiring, .qualified].map PortState.code = [0, 1, 2] ∧
    [BadReason.interval, .noMessage, .sequence, .unlocked, .missing].map BadReason.code = [0, 1, 2, 3, 4] ∧
    [TimeState.unset, .tracking, .holdover, .expired].map TimeState.code = [0, 1, 2, 3] ∧
    [StreamState.armed, .live, .stale, .suspended, .retiring].map StreamState.code = [1, 2, 3, 4, 5] ∧
    [EngineMode.idle, .run, .reinit, .frozen].map EngineMode.code = [0, 1, 2, 3] ∧
    [EpochState.opened, .due].map EpochState.code = [0, 1] ∧ [OpenedBy.strobe, .frame].map OpenedBy.code = [0, 1] ∧
    [VoidPolicy.emit, .suppress].map VoidPolicy.code = [0, 1] ∧ [FlowState.flowing, .held].map FlowState.code = [0, 1] ∧
    [FlowKind.hold, .go].map FlowKind.code = [0, 1]) ∧
  (∀ (s : State) (e : RequestEntry), s.part.Runs 0x10 e → e.params = [] →
    Completes .readTime s (fun t =>
      let b := s.part.timeBase
      let c := b.cfg
      let refCode := fun (r : RefPort) => be 1 (if r = .A then 0 else 1)
      let offset := fun (x : Port) =>
        match b.partTime, x.pulseRecord with
        | some u, some k => some ((u.ns : Int) - (k.second * 1000000000 + (s.part.clock - k.moment) : Nat))
        | _, _ => none
      let port := fun (x : Port) =>
        be 1 x.state.code ++ be 1 x.goodCount ++ opt (be 4) x.lastAnnounced ++
          opt (fun (y : SourceReport) => flag y.locked ++ be 1 y.quality) x.report ++ opt (beInt 8) (offset x) ++
          opt (fun y => be 1 (BadReason.code y)) x.lastBad ++ be 4 x.goodSeconds ++ be 4 x.badSeconds ++
          be 4 x.missingPulses ++ be 4 x.messageErrors
      Answered e .done
        (be 1 b.state.code ++ opt refCode b.selected ++
          opt (fun (u : PartTime) => be 4 u.second ++ be 4 u.nanos) b.partTime ++ opt (beInt 8) b.offset ++
          beInt 8 (b.slew.tdiv 20000) ++ be 4 b.holdoverSeconds ++
          (flag b.deltas.a ++ flag b.deltas.b ++ flag b.deltas.state ++ flag b.deltas.stepped) ++
          (be 1 c.qualifyCount ++ be 2 c.pulseTolerance ++ be 4 c.holdoverLimit ++ be 4 c.stepThreshold ++
            refCode c.preferred ++ flag c.failover) ++
          port s.part.portA ++ port s.part.portB) s.part t ∧
      t = { s.part with
        timeBase := { s.part.timeBase with deltas := ⟨false, false, false, false⟩ }
        attention := { s.part.attention with
          pending := { s.part.attention.pending with time := false }, attn := t.attention.attn }
        control := t.control } ∧
      t.attention.attn = attnLevel t))

/-- R31, R27: the checks of REGISTER_STREAM in their order (range, occupied, conflict), and the entry it makes: ARMED,
with everything counted from 0 and the change mark as it was. -/
def Obligations.RegisterStreamMakesEntry : Prop :=
  ∀ (s : State) (e : RequestEntry), s.part.Runs 0x20 e → e.params.length = 10 ∨ e.params.length = 11 →
    s.part.streams.wf = true →
    let i := field e.params 0 2
    let n := field e.params 2 4
    let rate := field e.params 6 1
    let y : Layout := ⟨field e.params 7 1, field e.params 8 1, field e.params 9 1⟩
    let inRange := i ≤ 511 ∧ n ≠ 0 ∧ n ≠ 4294967295 ∧ rate ≠ 0 ∧ rate ∣ 2 * s.part.nominal ∧ y.p ≤ 24 ∧ y.a ≤ 16 ∧
      y.d ≤ 4 ∧ (e.params.length = 11 → (byteAt e.params 10).toNat ≤ 3)
    let taken := s.part.stream i ≠ none ∨ ∃ j x, s.part.stream j = some x ∧ x.number = n
    let comparable := s.part.fo ∣ rate ∨ rate ∣ s.part.fo
    (¬ inRange → Refuses .registerStream e .range s) ∧
    (inRange → taken → Refuses .registerStream e .occupied s) ∧
    (inRange → ¬ taken → ¬ comparable → Refuses .registerStream e .conflict s) ∧
    (∀ k : Fin 4, inRange → ¬ taken → comparable →
      (e.params.length = 11 → (byteAt e.params 10).toNat = k.val) → (e.params.length = 10 → k = 0) →
      Completes .registerStream s (fun t => Answered e .done (be 2 i ++ [0x01#8]) s.part t ∧
        t = { s.part with
          streams := { s.part.streams with slots := t.streams.slots }, control := t.control } ∧
        t.streams.slot i = ⟨some {
          state := .armed, number := n, rate := rate, layout := y, waitClass := k, missCount := 0, refCount := 0
          lastFiled := none, summary := ⟨none, 0⟩, counters := ⟨0, 0, 0, 0, 0, 0, 0⟩ },
          (s.part.streams.slot i).mark⟩ ∧
        ∀ j, j ≠ i → t.streams.slot j = s.part.streams.slot j))

/-- R32, R34: ALTER_STREAM replaces the wait class, the layout, or both, of a stream that is neither VACANT nor RETIRING.
RESUME_STREAM makes a SUSPENDED entry ARMED with a miss count of 0, and refuses every other entry. -/
def Obligations.AlterAndResumeStream : Prop :=
  (∀ (s : State) (e : RequestEntry), s.part.Runs 0x21 e →
    let i := field e.params 0 2
    let len := e.params.length
    let off := if len = 5 then 2 else 3
    let y : Layout := ⟨field e.params off 1, field e.params (off + 1) 1, field e.params (off + 2) 1⟩
    let hasClass := len = 3 ∨ len = 6
    let hasLayout := len = 5 ∨ len = 6
    let inRange := i ≤ 511 ∧ (hasClass → (byteAt e.params 2).toNat ≤ 3) ∧
      (hasLayout → y.p ≤ 24 ∧ y.a ≤ 16 ∧ y.d ≤ 4)
    (¬ (len = 2 ∨ len = 3 ∨ len = 5 ∨ len = 6) → Refuses .alterStream e .malformed s) ∧
    (len = 2 ∨ len = 3 ∨ len = 5 ∨ len = 6 →
      (¬ inRange → Refuses .alterStream e .range s) ∧
      (inRange → s.part.stream i = none → Refuses .alterStream e .state s) ∧
      (∀ x, inRange → s.part.stream i = some x → x.state = .retiring → Refuses .alterStream e .state s) ∧
      (∀ x (k : Fin 4), inRange → s.part.stream i = some x → x.state ≠ .retiring →
        (hasClass → (byteAt e.params 2).toNat = k.val) → (¬ hasClass → k = x.waitClass) →
        Completes .alterStream s (fun t => Answered e .done [] s.part t ∧
          t = { s.part with
            streams := { s.part.streams with slots := t.streams.slots }, control := t.control } ∧
          t.streams.slot i = ⟨some { x with waitClass := k, layout := if hasLayout then y else x.layout },
            (s.part.streams.slot i).mark⟩ ∧
          ∀ j, j ≠ i → t.streams.slot j = s.part.streams.slot j)))) ∧
  (∀ (s : State) (e : RequestEntry), s.part.Runs 0x23 e → e.params.length = 2 →
    let i := field e.params 0 2
    (511 < i → Refuses .resumeStream e .range s) ∧
    (i ≤ 511 → s.part.stream i = none → Refuses .resumeStream e .state s) ∧
    (∀ x, i ≤ 511 → s.part.stream i = some x → x.state ≠ .suspended → Refuses .resumeStream e .state s) ∧
    (∀ x, i ≤ 511 → s.part.stream i = some x → x.state = .suspended →
      Completes .resumeStream s (fun t => Answered e .done [] s.part t ∧
        t = { s.part with
          streams := { s.part.streams with slots := t.streams.slots }, control := t.control } ∧
        t.streams.slot i = ⟨some { x with state := .armed, missCount := 0 }, (s.part.streams.slot i).mark⟩ ∧
        ∀ j, j ≠ i → t.streams.slot j = s.part.streams.slot j)))

/-- R33, R35, R39: SUSPEND_STREAM makes an ARMED, LIVE or STALE entry SUSPENDED with its mark set; RETIRE_STREAM makes an
entry without references VACANT with its mark set, and one with references RETIRING; a withdrawal goes to the window, so
that no OPEN entry awaits the stream any more (R64). Everything else of the entry stays, its miss count and misses counter
too (where no entry of the window expects an index twice, which R53 gives). -/
def Obligations.SuspendAndRetireStream : Prop :=
  ∀ (s : State) (e : RequestEntry), e.params.length = 2 →
    let i := field e.params 0 2
    let noneAwaits := fun (t : Part) => ∀ x ∈ t.engine.entries, x.state = .opened →
      ∀ y, x.item i = some y → y.withdrawn = true ∨ x.hasMember i = true
    let expectsOnce := ∀ x ∈ s.part.engine.entries, (x.expected.map Expected.index).Nodup
    (s.part.Runs 0x22 e →
      (511 < i → Refuses .suspendStream e .range s) ∧
      (i ≤ 511 → s.part.stream i = none → Refuses .suspendStream e .state s) ∧
      (∀ x, i ≤ 511 → s.part.stream i = some x → x.state = .suspended ∨ x.state = .retiring →
        Refuses .suspendStream e .state s) ∧
      (∀ x, i ≤ 511 → s.part.stream i = some x → x.state ≠ .suspended → x.state ≠ .retiring →
        Completes .suspendStream s (fun t => Answered e .done [] s.part t ∧ noneAwaits t ∧
          t.attention.pending.stream = true ∧
          ∃ y, t.streams.slot i = ⟨some y, true⟩ ∧ y = { x with
            state := .suspended
            missCount := y.missCount
            counters := { x.counters with misses := y.counters.misses } } ∧
            (expectsOnce → y = { x with state := .suspended })))) ∧
    (s.part.Runs 0x24 e →
      (511 < i → Refuses .retireStream e .range s) ∧
      (i ≤ 511 → s.part.stream i = none → Refuses .retireStream e .state s) ∧
      (∀ x, i ≤ 511 → s.part.stream i = some x → x.state = .retiring → Refuses .retireStream e .state s) ∧
      (∀ x, i ≤ 511 → s.part.stream i = some x → x.state ≠ .retiring → x.refCount = 0 →
        Completes .retireStream s (fun t => Answered e .done [0x00#8, 0x00#8, 0x00#8] s.part t ∧
          t = { s.part with
            streams := { s.part.streams with slots := t.streams.slots }
            attention := t.attention
            control := t.control } ∧
          Raised .stream s.part t ∧ t.streams.slot i = ⟨none, true⟩ ∧
          ∀ j, j ≠ i → t.streams.slot j = s.part.streams.slot j)) ∧
      (∀ x, i ≤ 511 → s.part.stream i = some x → x.state ≠ .retiring → x.refCount ≠ 0 →
        Completes .retireStream s (fun t => Answered e .done ([0x05#8] ++ be 2 x.refCount) s.part t ∧ noneAwaits t ∧
          ∃ y, t.streams.slot i = ⟨some y, (s.part.streams.slot i).mark⟩ ∧ y = { x with
            state := .retiring
            missCount := y.missCount
            counters := { x.counters with misses := y.counters.misses } } ∧
            (expectsOnce → y = { x with state := .retiring }))))

/-- R44: READ_STREAM reports a registered stream and begins its condition summary again; nothing else of it changes. That
the condition flags are one byte of the reply is the model's choice (log 16). -/
def Obligations.ReadStreamClearsSummary : Prop :=
  ∀ (s : State) (e : RequestEntry), s.part.Runs 0x25 e → e.params.length = 2 →
    let i := field e.params 0 2
    (511 < i → Refuses .readStream e .range s) ∧
    (i ≤ 511 → s.part.stream i = none → Refuses .readStream e .absent s) ∧
    (∀ x, i ≤ 511 → s.part.stream i = some x →
      Completes .readStream s (fun t =>
        let c := x.counters
        Answered e .done
          (be 2 i ++ be 1 x.state.code ++ be 4 x.number ++ be 1 x.rate ++ be 1 x.layout.p ++ be 1 x.layout.a ++
            be 1 x.layout.d ++ be 1 x.waitClass.val ++ be 1 x.missCount ++ be 2 x.refCount ++ opt labelBytes x.lastFiled ++
            opt (be 1) x.summary.quality ++ be 1 x.summary.flags.toNat ++ be 4 c.filed ++ be 4 c.tardy ++ be 4 c.late ++
            be 4 c.duplicate ++ be 4 c.decimated ++ be 4 c.layoutMismatch ++ be 4 c.misses ++
            flag (s.part.streams.slot i).mark) s.part t ∧
        t = { s.part with
          streams := { s.part.streams with slots := t.streams.slots }, control := t.control } ∧
        t.streams.slot i = ⟨some { x with summary := ⟨none, 0⟩ }, (s.part.streams.slot i).mark⟩ ∧
        ∀ j, j ≠ i → t.streams.slot j = s.part.streams.slot j))

/-! ### Epoch Table -/

/-- R19, R56, R57, R59, R65, R66, R68: a strobe that is due advances the strobe label past its label `l` (the last label
of all stays). A label that has left is not opened again. A label without an entry is opened with the snapshot of the
Stream Table, its counts by class and the deadline of R55, or skipped, counted and raised as EGRESS, where 256 entries
are held and the oldest is OPEN. Where 256 are held and the oldest is DUE, that one is dropped, be it earlier or later
than the label, with EGRESS, and the label is opened. An entry that awaits nobody becomes DUE, and leaves where it is
the oldest and may, its record with its members, missing list and flags joining the Release Queue and its buffers
RELEASED; one that awaits somebody stays OPEN. The model's readings: the last label of all stays, marked as taken (log
15); with no strobe due nothing happens (log 5). The model's choices: a label that left before a realignment that took no
entry is sealed, and counts as one that has left (R144, log 41); so does a label that was dropped for an earlier one (R144,
log 37); and a label that has an entry although it is not later than the horizon takes R57's second case, not its first (log
48). -/
def Obligations.StrobeAdvancesAndOpens : Prop :=
  ∀ s : State, s.part.Ready →
    let g := s.part.engine
    (s.part.strobeDue = none → exec .strobe s = .next s) ∧
    (∀ l, s.part.strobeDue = some l →
      let moved : Engine :=
        if l = Label.last g.cfg.fo then { g with lastLabel := .taken } else { g with strobe := some (l.next g.cfg.fo) }
      Completes .strobe s (fun t =>
        t.engine.strobe = moved.strobe ∧ t.engine.lastLabel = moved.lastLabel ∧ t.timeBase = s.part.timeBase ∧
        t.portA = s.part.portA ∧ t.portB = s.part.portB ∧ t.sorter = s.part.sorter ∧ t.lanes = s.part.lanes ∧
        (∀ e, s.part.epoch l = some e → e.state = .opened → e.counts.allZero = false → t.epoch l = some e) ∧
        (∀ e, s.part.epoch l = some e → e.state = .opened → e.counts.allZero = true →
          (∀ x ∈ t.engine.entries, x.label = l → x.state = .due) ∧
          (g.entries.head? = some e → e.members ≠ [] ∨ g.cfg.voidPolicy = .emit →
            s.part.egress.releaseQueue.length < 32 → LeftByTurn e s.part t)) ∧
        let closed := (∃ h, g.horizon = some h ∧ l.le h = true) ∨ (∃ m ∈ g.dropped, m.at_ l g.cfg.fo) ∨
          (∃ m, g.sealed = some m ∧ ¬ m.earlierThan l g.cfg.fo)
        (s.part.epoch l = none → closed → t = { s.part with engine := moved }) ∧
        (¬ closed →
          (s.part.epoch l = none → g.entries.length < 256 → t.engine.counters.opened = bump g.counters.opened) ∧
          (s.part.epoch l = none → g.entries.length < 256 → s.part.streams.snapshot g.cfg.fo l ≠ [] →
            t.epoch l = some {
              label := l
              state := .opened
              openedBy := .strobe
              expected := s.part.streams.snapshot g.cfg.fo l
              members := []
              counts := countClasses (s.part.streams.snapshot g.cfg.fo l)
              deadline := deadlineOf g.cfg.waits (countClasses (s.part.streams.snapshot g.cfg.fo l)) }) ∧
          (s.part.epoch l = none → g.entries.length < 256 → s.part.streams.snapshot g.cfg.fo l = [] →
            ∀ x ∈ t.engine.entries, x.label = l → x.state = .due) ∧
          (g.entries = [] → s.part.streams.snapshot g.cfg.fo l = [] →
            (g.cfg.voidPolicy = .suppress →
              t.engine.entries = [] ∧ t.engine.horizon = some l ∧
              t.engine.counters.suppressedVoid = bump g.counters.suppressedVoid ∧
              t.egress.releaseQueue.map SetRecord.label = s.part.egress.releaseQueue.map SetRecord.label) ∧
            (g.cfg.voidPolicy = .emit → s.part.egress.releaseQueue.length < 32 →
              t.engine.entries = [] ∧ t.engine.horizon = some l ∧
              t.engine.counters.released = bump g.counters.released ∧
              t.egress.releaseQueue.map SetRecord.label = s.part.egress.releaseQueue.map SetRecord.label ++ [l] ∧
              ∃ x, t.egress.releaseQueue.getLast? = some x ∧ x.members = [] ∧ x.missing = [] ∧
                x.flags = ⟨.void, decide (s.part.timeBase.state = .holdover),
                  decide (s.part.timeBase.state = .expired), false, false, false⟩) ∧
            (g.cfg.voidPolicy = .emit → 32 ≤ s.part.egress.releaseQueue.length →
              ∃ x, t.engine.entries = [x] ∧ x.label = l ∧ x.state = .due)) ∧
          (∀ e, s.part.epoch l = none → 256 ≤ g.entries.length → g.entries.head? = some e → e.state = .due →
            t.engine.counters.opened = bump g.counters.opened ∧ t.engine.counters.dropped = bump g.counters.dropped ∧
            t.attention.pending.egress = true ∧
            t.store.freeList = s.part.store.freeList ++ e.members.map Member.buffer ∧
            (s.part.streams.wf = true → s.part.streams.snapshot g.cfg.fo l ≠ [] →
              ∃ x, t.epoch l = some x ∧ x.state = .opened ∧ x.openedBy = .strobe ∧
                x.expected = s.part.streams.snapshot g.cfg.fo l)) ∧
          (∀ e, s.part.epoch l = none → 256 ≤ g.entries.length → g.entries.head? = some e → e.state = .opened →
            t = { s.part with
              engine := { moved with counters := { g.counters with skipped := bump g.counters.skipped } }
              attention := t.attention
              control := t.control } ∧ Raised .egress s.part t))))

/-- R20, R42, R43, R63 to R66: a deadline expiry that is due makes its entry DUE and reports one miss for each item
still outstanding, each against the stream that still holds the recorded number. A miss that reaches the stale threshold
makes an ARMED or LIVE stream STALE, marks it, raises STREAM and withdraws it from the window. Where no other OPEN entry
can expire with it, every stream has exactly its one miss. A withdrawal that leaves another entry a deadline already
reached brings that expiry too, so that none becomes due that the event leaves waiting; none was delivered before its entry's deadline. An entry that is the oldest leaves by its turn, its record
with its members, missing list and flags joining the Release Queue. The model's choices: the order of the consequences
within the event (log 9), its misses arrive within it (log 49), and with nothing due nothing happens (log 5). -/
def Obligations.DeadlineExpiryReportsMisses : Prop :=
  ∀ (s : State) (l : Label), s.part.Ready →
    ((∀ e, s.part.epoch l = some e → s.part.expiryDue e = false) → exec (.deadlineExpiry l) s = .next s) ∧
    (∀ e, s.part.epoch l = some e → s.part.expiryDue e = true → Completes (.deadlineExpiry l) s (fun t =>
      (∀ x ∈ t.engine.entries, x.label = l → x.state = .due) ∧
      t.engine.strobe = s.part.engine.strobe ∧ t.timeBase = s.part.timeBase ∧ t.sorter = s.part.sorter ∧
      t.lanes = s.part.lanes ∧ t.portA = s.part.portA ∧ t.portB = s.part.portB ∧ FellDueByRule s.part t ∧
      (s.part.WindowOrdered → ∀ z ∈ t.engine.entries, t.expiryDue z = true →
        ∃ w ∈ s.part.engine.entries, w.label = z.label ∧ s.part.expiryDue w = true) ∧
      ((e.outstanding.map Expected.index).Nodup →
        (∀ y ∈ e.outstanding, ∀ x, s.part.stream y.index = some x → x.state = .armed ∨ x.state = .live →
          min (x.missCount + 1) 255 < s.part.engine.cfg.staleThreshold) →
        ∀ i, t.stream i = (s.part.stream i).map (fun x =>
          if ∃ y ∈ e.outstanding, y.index = i ∧ y.number = x.number then { x with
            missCount := min (x.missCount + 1) 255
            counters := { x.counters with misses := bump x.counters.misses } }
          else x)) ∧
      (∀ y ∈ e.outstanding, ∀ x, s.part.stream y.index = some x → x.number = y.number →
        x.state = .armed ∨ x.state = .live → s.part.engine.cfg.staleThreshold ≤ min (x.missCount + 1) 255 →
        t.attention.pending.stream = true ∧ (t.streams.slot y.index).mark = true ∧
        (∃ z, t.stream y.index = some z ∧ z.state = .stale ∧ z.number = x.number) ∧
        ∀ w ∈ t.engine.entries, w.state = .opened →
          ∀ z, w.item y.index = some z → z.withdrawn = true ∨ w.hasMember y.index = true) ∧
      ((e.outstanding.map Expected.index).Nodup →
        (∀ w ∈ s.part.engine.entries, w.label ≠ l → w.state = .opened → ∀ x, s.part.timeBase.partTime = some x →
          ∀ k ∈ s.part.engine.cfg.waits.toList, x.reachesAfter s.part.fo w.label k = false) →
        ∀ i,
          let missed := fun (x : Stream) => ∃ y ∈ e.outstanding, y.index = i ∧ y.number = x.number
          let fails := fun (x : Stream) => (x.state = .armed ∨ x.state = .live) ∧
            s.part.engine.cfg.staleThreshold ≤ min (x.missCount + 1) 255
          (s.part.stream i = none → t.streams.slot i = s.part.streams.slot i) ∧
          (∀ x, s.part.stream i = some x → ¬ missed x → t.streams.slot i = s.part.streams.slot i) ∧
          (∀ x, s.part.stream i = some x → missed x →
            let counted := { x with
              missCount := min (x.missCount + 1) 255
              counters := { x.counters with misses := bump x.counters.misses } }
            (¬ fails x → t.streams.slot i = ⟨some counted, (s.part.streams.slot i).mark⟩) ∧
            (fails x → t.streams.slot i = ⟨some { counted with state := .stale }, true⟩))) ∧
      (s.part.engine.entries.head? = some e → e.members ≠ [] ∨ s.part.engine.cfg.voidPolicy = .emit →
        s.part.egress.releaseQueue.length < 32 → LeftByTurn e s.part t)))

/-- R72 to R75: the checks of CONFIGURE_ALIGNMENT in their order (range, conflict, depth). Where the output rate, the
waits and the tolerance stay, the parameters take effect at once; otherwise a realignment begins: the engine is in
REINIT, the executor is held, the parameters in force stand, and entries may leave, oldest first. How many leave at once
is free (the model's choice, log 7); that a FROZEN engine enters REINIT too is the model's choice (log 36). -/
def Obligations.AlignmentAppliedOrBegun : Prop :=
  ∀ (s : State) (e : RequestEntry), s.part.Runs 0x30 e → e.params.length = 14 →
    let c := alignmentParams e.params
    let g := s.part.engine
    let inRange := c.fo ≠ 0 ∧ c.fo ∣ 2 * s.part.nominal ∧ c.waits.a0 ≤ 8000 ∧ c.waits.a1 ≤ 8000 ∧ c.waits.a2 ≤ 8000 ∧
      c.waits.a3 ≤ 8000 ∧ c.tolerance ≤ 2000 ∧ 1 ≤ c.staleThreshold ∧ c.staleThreshold ≤ 255 ∧
      (byteAt e.params 12).toNat ≤ 1 ∧ (byteAt e.params 13).toNat ≤ 1
    let agrees := ∀ x ∈ s.part.streams.slots, ∀ st, x.2.stream = some st → c.fo ∣ st.rate ∨ st.rate ∣ c.fo
    let widest := max (max c.waits.a0 c.waits.a1) (max c.waits.a2 c.waits.a3) + c.tolerance
    let fits := (widest * c.fo + 999) / 1000 + 2 ≤ 256
    let same := c.fo = g.cfg.fo ∧ c.waits = g.cfg.waits ∧ c.tolerance = g.cfg.tolerance
    (¬ inRange → Refuses .configureAlignment e .range s) ∧
    (inRange → ¬ agrees → Refuses .configureAlignment e .conflict s) ∧
    (inRange → agrees → ¬ fits → Refuses .configureAlignment e .depth s) ∧
    (inRange → agrees → fits → same → Completes .configureAlignment s (fun t =>
      Answered e .done [0x00#8, 0x00#8, 0x00#8, 0x00#8, 0x00#8, 0x00#8, 0x00#8] s.part t ∧
      t = { s.part with engine := { g with cfg := c }, control := t.control })) ∧
    (inRange → agrees → fits → ¬ same → Completes .configureAlignment s (fun t =>
      t.engine.mode = .reinit ∧ t.engine.cfg = g.cfg ∧ t.control.queue = s.part.control.queue ∧
      t.engine.strobe = g.strobe ∧ t.timeBase = s.part.timeBase ∧ t.sorter = s.part.sorter ∧
      t.lanes = s.part.lanes ∧
      ∃ r n, t.engine.realign = some r ∧ r.cfg = c ∧ n ≤ g.entries.length ∧ t.engine.entries = g.entries.drop n ∧
        r.tally.released + r.tally.dropped + r.tally.suppressed = n ∧
        (s.part.egress.releaseQueue.length + g.entries.length ≤ 32 → r.tally.dropped = 0)))

/-- R75, R76: a realignment completes with the table empty and its parameters in force; the strobe label starts again
after part time and after the newest label that left; the engine runs, or is IDLE or FROZEN; and the request is answered
with the totals. Each entry was suppressed, released with the REINIT flag (R66), or dropped for want of a place. The
model's readings: entries still held are taken at this event (log 7); the strobe label at the end of time (log 26); and
with no realignment nothing happens (log 5). Where no entry left the mark is absent, and the strobe label starts right
after part time (R76); the model's choice is to keep the instant of the label that left last as a seal, so that no label
that has left is opened again (R144, log 41), and for the same end the labels dropped ahead of an earlier one (log 37). -/
def Obligations.RealignmentCompletes : Prop :=
  ∀ s : State, s.part.Ready →
    let g := s.part.engine
    (g.realign = none → exec .realignmentComplete s = .next s) ∧
    (∀ r e, g.realign = some r → executing s.part.control.queue = some e →
      Completes .realignmentComplete s (fun t =>
        let void := g.entries.countP (fun x => decide (x.members = [] ∧ g.cfg.voidPolicy = .suppress))
        let full := g.entries.length - void
        let out := min full (32 - s.part.egress.releaseQueue.length)
        let newest := (g.entries.getLast?.map Epoch.label).or r.newest
        Answered e .done ([0x01#8] ++ be 2 (r.tally.released + out) ++ be 2 (r.tally.dropped + (full - out)) ++
          be 2 (r.tally.suppressed + void)) s.part t ∧
        t.engine.entries = [] ∧ t.engine.realign = none ∧ t.engine.cfg = r.cfg ∧ t.engine.horizon = none ∧
        t.engine.mark = newest.map (fun l => ⟨l.second, l.tick, g.cfg.fo⟩) ∧
        t.engine.sealed = (if newest = none then g.newestLeft else none) ∧
        t.engine.dropped = g.dropped.filter (fun m => g.entries.all (fun x => m.isLater g.cfg.fo x.label)) ∧
        let kept := g.entries.filter (fun x => !decide (x.members = [] ∧ g.cfg.voidPolicy = .suppress))
        t.egress.releaseQueue.map SetRecord.content = s.part.egress.releaseQueue.map SetRecord.content ++
          (kept.take out).map (fun x => x.asSet s.part false true) ∧
        ((kept.flatMap (fun x => x.members.map Member.buffer)).Nodup →
          ∀ x ∈ kept.take out, ∀ m ∈ x.members, (t.store.buffer m.buffer).state = .released) ∧
        t.engine.mode = (if s.part.pins.isolate then .frozen
          else if s.part.timeBase.partTime.isSome then .run else .idle) ∧
        t.engine.strobe = s.part.timeBase.partTime.map (fun x => t.engine.labelAfter x) ∧
        (newest = none → t.engine.strobe = s.part.timeBase.partTime.map (fun x => x.firstLabel r.cfg.fo)) ∧
        t.timeBase = s.part.timeBase ∧ t.sorter = s.part.sorter ∧ t.lanes = s.part.lanes ∧
        (full - out ≠ 0 → t.attention.pending.egress = true)))

/-- R66, R77: a flush empties the table, oldest first, each entry suppressed, released with the FLUSHED flag, or dropped
for want of a place, and answers the totals; the mode and the strobe label stay. A released entry's record holds its
members and missing list, and its buffers are RELEASED. The model's choice, for its own two fields (R144): with an entry
that leaves the seal goes (log 41), and of the labels dropped for an earlier one those later than all that leave stay kept
(log 37). -/
def Obligations.FlushEmptiesWindow : Prop :=
  ∀ (s : State) (e : RequestEntry), s.part.Runs 0x31 e → e.params = [] →
    Completes .flushWindow s (fun t =>
      let g := s.part.engine
      let void := g.entries.countP (fun x => decide (x.members = [] ∧ g.cfg.voidPolicy = .suppress))
      let full := g.entries.length - void
      let out := min full (32 - s.part.egress.releaseQueue.length)
      Answered e .done (be 2 out ++ be 2 (full - out) ++ be 2 void) s.part t ∧
      t.engine = { g with
        entries := []
        horizon := (g.entries.getLast?.map Epoch.label).or g.horizon
        mark := if g.entries = [] then g.mark else none
        sealed := if g.entries = [] then g.sealed else none
        dropped := g.dropped.filter (fun m => g.entries.all (fun x => m.isLater g.cfg.fo x.label))
        counters := { g.counters with
          flushed := if out = 0 then g.counters.flushed else bumpBy out g.counters.flushed
          suppressedVoid := if void = 0 then g.counters.suppressedVoid else bumpBy void g.counters.suppressedVoid
          dropped := if (full - out) = 0 then g.counters.dropped else bumpBy (full - out) g.counters.dropped } } ∧
      t.timeBase = s.part.timeBase ∧ t.sorter = s.part.sorter ∧ t.lanes = s.part.lanes ∧
      let kept := g.entries.filter (fun x => !decide (x.members = [] ∧ g.cfg.voidPolicy = .suppress))
      t.egress.releaseQueue.map SetRecord.content = s.part.egress.releaseQueue.map SetRecord.content ++
        (kept.take out).map (fun x => x.asSet s.part true false) ∧
      ((kept.flatMap (fun x => x.members.map Member.buffer)).Nodup →
        ∀ x ∈ kept.take out, ∀ m ∈ x.members, (t.store.buffer m.buffer).state = .released) ∧
      (full - out ≠ 0 → t.attention.pending.egress = true))

/-! ### Frame Sorter -/

/-- R3, R93: a permitted rate divides twice the nominal frequency, and the output rate defaults to that frequency; two
rates are comparable when one divides the other; labels are ordered by second and then by tick, and after the last tick
of a second comes tick 0 of the next; the epoch tick of a frame's own tick. -/
def Obligations.RatesAndEpochTicks : Prop :=
  (∀ nominal r, permittedRate nominal r = true ↔ r ≠ 0 ∧ r ∣ 2 * nominal) ∧
  (∀ r, permittedRate 50 r = true ↔ r ∈ [1, 2, 4, 5, 10, 20, 25, 50, 100]) ∧
  (∀ r, permittedRate 60 r = true ↔ r ∈ [1, 2, 3, 4, 5, 6, 8, 10, 12, 15, 20, 24, 30, 40, 60, 120]) ∧
  (∀ fs fo, comparable fs fo = true ↔ fo ∣ fs ∨ fs ∣ fo) ∧
  (∀ nominal, (AlignConfig.initial nominal).fo = nominal) ∧
  (∀ a b : Label, a.lt b = true ↔ a.second < b.second ∨ (a.second = b.second ∧ a.tick < b.tick)) ∧
  (∀ fo x, Label.next fo ⟨x, fo - 1⟩ = ⟨x + 1, 0⟩) ∧
  (∀ fo x y, y + 1 < fo → Label.next fo ⟨x, y⟩ = ⟨x, y + 1⟩) ∧
  (∀ fs fo t, fo ∣ fs → 0 < fs → t % (fs / fo) = 0 → epochTick fs fo t = t / (fs / fo)) ∧
  (∀ fs fo t, fs ∣ fo → fs < fo → epochTick fs fo t = t * (fo / fs))

/-- R86 to R99: the tests on a frame in their order, each outcome with exactly its conditions. A label at or after the
strobe label is early only where it is later than what a realignment left behind (R65, R144; log 26, 41) and was not dropped.
The model's choices: a label that was dropped for an earlier one stays LATE when the horizon has moved back from it (log 37);
the last label of all stays the strobe label when its strobe has been taken, and a frame for it with no entry is early (log 47). -/
def Obligations.SorterTestsInOrder : Prop :=
  ∀ (p : Part) (len : Nat) (b : List Byte),
    let m := p.engine.mode
    let own := frameLabel b
    let y := frameLayout b
    let sound := 24 ≤ len ∧ y.p ≤ 24 ∧ y.a ≤ 16 ∧ y.d ≤ 4 ∧ len = 24 + 8 * y.p + 4 * y.a + 2 * y.d ∧
      field b 0 4 ≠ 0 ∧ field b 0 4 ≠ 4294967295 ∧ own.tick < 2 * p.nominal
    let v := p.verdict len b
    let running := m = .run ∨ m = .frozen
    (m = .idle → v = (.noTime, none)) ∧
    (m = .reinit → v = (.reinit, none)) ∧
    (running → ¬ sound → v = (.malformed, none)) ∧
    (running → sound → findNumber (field b 0 4) p.streams.slots = none → v = (.stranger, none)) ∧
    (∀ i st, running → sound → findNumber (field b 0 4) p.streams.slots = some (i, st) →
      let active := st.state ≠ .suspended ∧ st.state ≠ .retiring
      let l : Label := ⟨own.second, epochTick st.rate p.fo own.tick⟩
      v.2 = some (i, st) ∧
      (st.state = .suspended → v.1 = .suspended) ∧
      (st.state = .retiring → v.1 = .retired) ∧
      (active → y ≠ st.layout → v.1 = .layoutMismatch) ∧
      (active → y = st.layout → st.rate ≤ own.tick → v.1 = .offGrid) ∧
      (active → y = st.layout → own.tick < st.rate → p.fo ≤ st.rate → own.tick % (st.rate / p.fo) ≠ 0 →
        v.1 = .decimated) ∧
      (active → y = st.layout → own.tick < st.rate → (p.fo ≤ st.rate → own.tick % (st.rate / p.fo) = 0) →
        (p.left l = true → v.1 = .late) ∧
        (p.left l = false → p.isAhead l = true → v.1 = .ahead) ∧
        (p.left l = false → p.isAhead l = false →
          (∀ e, p.epoch l = some e → e.hasMember i = true → v.1 = .duplicate) ∧
          (∀ e, p.epoch l = some e → e.hasMember i = false → v.1 = .file) ∧
          (p.epoch l = none → p.atStrobe l = true → v.1 = .early) ∧
          (p.epoch l = none → p.atStrobe l = false → v.1 = .noEpoch))))

/-- R83, R84, R87, R88, R89, R47: a sort takes the oldest frame of the first lane after the pointer whose queue holds
one, moves the pointer there, counts it and evaluates the lane's flow. With time not set, in a realignment, for a
malformed frame and for a stranger the frame is counted under its outcome and its buffer returned, and nothing else is
done, but that a stranger is sighted: its entry counts it, or the list takes it, or it is counted as unlisted, the
latter two with STRANGER. While the engine is FROZEN or every queue is empty nothing is sorted; nor while ISOLATE is
asserted and a realignment still runs, which is the model's choice (log 35). -/
def Obligations.SortTakesOldestFrame : Prop :=
  ∀ s : State, s.part.Ready →
    (s.part.engine.mode = .frozen ∨ s.part.pins.isolate = true → exec .sort s = .next s) ∧
    ((∀ l, (s.part.lane l).queue = []) → exec .sort s = .next s) ∧
    (∀ (k : Fin 4) (l : LaneId) (f : LaneEntry) (q : List LaneEntry), s.part.engine.mode ≠ .frozen →
      s.part.pins.isolate = false →
      l = s.part.sorter.pointer + 1 + k → (∀ j : Fin 4, j < k → (s.part.lane (s.part.sorter.pointer + 1 + j)).queue = []) →
      (s.part.lane l).queue = f :: q →
      Completes .sort s (fun t =>
        let x := s.part.lane l
        let body := (s.part.store.buffer f.buffer).stored
        let v := s.part.verdict f.length body
        let n := frameNumber body
        let known := s.part.streams.strangers
        let discarded := fun (c : DiscardCounters) =>
          t = { s.part with
            sorter := { s.part.sorter with pointer := l, sorted := bump s.part.sorter.sorted, discards := c }
            lanes := t.lanes
            store := t.store
            streams := { s.part.streams with strangers := t.streams.strangers, unlisted := t.streams.unlisted }
            attention := t.attention
            control := t.control } ∧
          Returned [f.buffer] s.part.store t.store
        t.lane l = Lane.tested false { x with
          queue := q, flow := if x.enabled then flowAfter x.highMark x.lowMark q.length x.flow else x.flow } ∧
        (∀ m, m ≠ l → t.lane m = s.part.lane m) ∧
        t.sorter.pointer = l ∧ t.sorter.sorted = bump s.part.sorter.sorted ∧
        t.portA = s.part.portA ∧ t.portB = s.part.portB ∧ t.timeBase = s.part.timeBase ∧ t.pins = s.part.pins ∧
        (v = (.noTime, none) →
          discarded { s.part.sorter.discards with noTime := bump s.part.sorter.discards.noTime } ∧
          t.streams = s.part.streams) ∧
        (v = (.reinit, none) →
          discarded { s.part.sorter.discards with reinit := bump s.part.sorter.discards.reinit } ∧
          t.streams = s.part.streams) ∧
        (v = (.malformed, none) →
          discarded { s.part.sorter.discards with malformed := bump s.part.sorter.discards.malformed } ∧
          t.streams = s.part.streams) ∧
        (v = (.stranger, none) →
          discarded { s.part.sorter.discards with stranger := bump s.part.sorter.discards.stranger } ∧
          ((known.map Stranger.number).Nodup → (∃ y ∈ known, y.number = n) →
            t.streams = { s.part.streams with
              strangers := known.map (fun y => if y.number = n then { y with seen := min (y.seen + 1) 65535 } else y) }) ∧
          ((∀ y ∈ known, y.number ≠ n) → known.length < 16 →
            t.streams = { s.part.streams with strangers := known ++ [⟨n, l, frameLabel body, 1⟩] } ∧
            t.attention.pending.stranger = true) ∧
          ((∀ y ∈ known, y.number ≠ n) → 16 ≤ known.length →
            t.streams = { s.part.streams with unlisted := bump s.part.streams.unlisted } ∧
            t.attention.pending.stranger = true))))

/-- R40, R54, R56, R58 to R62, R65, R66, R85, R94, R97, R98, R100: what a sorted frame of a registered stream leaves,
outcome by outcome. A filing gives the buffer to the entry as a member, TARDY where the entry was DUE and EXTRA where it
does not expect the stream, counts its reference at the sort, and when it has reached the Stream Table (at the sort, or
before the next event that is no request: R85, log 45) it has counted against the stream and made an ARMED or STALE one
LIVE (which it stays where the filing brings no deadline expiry). A filing that completes the oldest entry has it leave
by its turn, its record with its members, missing list and flags joining the Release Queue. An early frame has its entry
opened first, with its snapshot, dropping the oldest entry where 256 are held and that is DUE, be it earlier or later
than the frame's label; where that is OPEN, the frame is lost to WINDOW_FULL and the Stream Table stays as it was. A late
frame goes to the Straggler Queue where forwarding is on and a place is free. Every other outcome counts and returns the
buffer. -/
def Obligations.SortCarriesOutVerdict : Prop :=
  ∀ (s : State) (l : LaneId) (f : LaneEntry) (i : Nat) (st : Stream) (v : Verdict),
    s.part.Ready → s.part.engine.mode = .run → s.part.pins.isolate = false →
    s.part.chosenLane = some l → (s.part.lane l).queue.head? = some f →
    let body := (s.part.store.buffer f.buffer).stored
    let own := frameLabel body
    let at_ : Label := ⟨own.second, epochTick st.rate s.part.fo own.tick⟩
    let g := s.part.engine
    let snap := s.part.streams.snapshot s.part.fo at_
    let filedStream := fun (tardy : Bool) => { st with
      state := .live
      missCount := 0
      refCount := st.refCount + 1
      lastFiled := some own
      summary := ⟨some (match st.summary.quality with
          | none => frameQuality body
          | some w => max w (frameQuality body)), st.summary.flags ||| frameFlags body⟩
      counters := { st.counters with
        filed := bump st.counters.filed
        tardy := if tardy then bump st.counters.tardy else st.counters.tardy } }
    let slotAfter := fun (tardy : Bool) => Slot.mk (some (filedStream tardy))
      ((s.part.streams.slot i).mark || decide (st.state = .armed) || decide (st.state = .stale))
    let far := fun (x : PartTime) => ∀ w ∈ g.cfg.waits.toList, x.reachesAfter s.part.fo at_ w = false
    let onItsWay := fun (t : Part) (tardy : Bool) => t.filing = none ∨ t.filing = some {
      index := i
      number := st.number
      label := own
      quality := frameQuality body
      flags := frameFlags body
      tardy := tardy }
    let memberAs := fun (e : Epoch) => Member.mk i st.number f.buffer l
      (((e.item i).map Expected.waitClass).getD st.waitClass) (decide (e.state = .due)) (e.item i).isNone
    s.part.verdict f.length body = (v, some (i, st)) → s.part.stream i = some st →
    Completes .sort s (fun t =>
      (∀ e, v = .file → s.part.epoch at_ = some e →
        t.sorter.filed = bump s.part.sorter.filed ∧
        t.sorter.filedTardy =
          (if e.state = .due then bump s.part.sorter.filedTardy else s.part.sorter.filedTardy) ∧
        t.sorter.discards = s.part.sorter.discards ∧
        (∀ x, t.epoch at_ = some x → memberAs e ∈ x.members) ∧ onItsWay t (decide (e.state = .due)) ∧
        (∃ z, t.stream i = some z ∧ z.refCount = st.refCount + 1 ∧ z.number = st.number) ∧
        (st.state = .armed ∨ st.state = .stale →
          (t.reached.streams.slot i).mark = true ∧ t.reached.attention.pending.stream = true) ∧
        (∃ z, t.reached.stream i = some z ∧ z.lastFiled = some own ∧ z.refCount = st.refCount + 1 ∧
          z.number = st.number ∧ (z.state = .live ∨ (z.state = .stale ∧ z.missCount ≠ 0))) ∧
        (e.state = .due ∨ (∀ x, s.part.timeBase.partTime = some x → far x) →
          t.reached.streams.slot i = slotAfter (decide (e.state = .due))) ∧
        -- the filing that leaves the oldest entry, passed by its strobe, with nothing outstanding
        (∀ y, s.part.WindowOrdered → g.entries.head? = some e → e.state = .opened → s.part.passed at_ = true →
          (e.members.map Member.index).Pairwise (· < ·) → e.item i = some y → y.withdrawn = false →
          (∀ k : Fin 4, e.counts.get k = if k = y.waitClass then 1 else 0) →
          s.part.egress.releaseQueue.length < 32 →
          LeftByTurn { e with
            members := e.members.filter (fun m => decide (m.index < i)) ++
              memberAs e :: e.members.filter (fun m => decide (i < m.index)) } s.part t)) ∧
      (v = .early → g.entries.length < 256 →
        t.sorter = { s.part.sorter with
          pointer := l
          sorted := bump s.part.sorter.sorted
          filed := bump s.part.sorter.filed
          openedEarly := bump s.part.sorter.openedEarly } ∧
        t.engine.counters.opened = bump g.counters.opened ∧ onItsWay t false ∧
        (∃ z, t.stream i = some z ∧ z.refCount = st.refCount + 1 ∧ z.number = st.number) ∧
        (g.lastLabel ≠ .taken → (∀ x, s.part.timeBase.partTime = some x → far x) → s.part.streams.wf = true →
          t.reached.streams.slot i = slotAfter false ∧
          t.epoch at_ = some {
            label := at_
            state := .opened
            openedBy := .frame
            expected := snap
            members := [{
              index := i
              number := st.number
              buffer := f.buffer
              lane := l
              waitClass := ((snap.find? (fun y => y.index == i)).map Expected.waitClass).getD st.waitClass
              tardy := false
              extra := snap.all (fun y => y.index != i) }]
            counts := countClasses (snap.filter (fun y => y.index ≠ i))
            deadline := deadlineOf g.cfg.waits (countClasses (snap.filter (fun y => y.index ≠ i))) })) ∧
      (∀ e, v = .early → 256 ≤ g.entries.length → g.entries.head? = some e → e.state = .due →
        t.sorter = { s.part.sorter with
          pointer := l
          sorted := bump s.part.sorter.sorted
          filed := bump s.part.sorter.filed
          openedEarly := bump s.part.sorter.openedEarly } ∧
        t.engine.counters.opened = bump g.counters.opened ∧ t.engine.counters.dropped = bump g.counters.dropped ∧
        t.attention.pending.egress = true ∧ onItsWay t false ∧
        t.store.freeList = s.part.store.freeList ++ e.members.map Member.buffer ∧
        (g.lastLabel ≠ .taken → (∀ x, s.part.timeBase.partTime = some x → far x) → s.part.streams.wf = true →
          ∃ x, t.epoch at_ = some x ∧ x.state = .opened ∧ x.openedBy = .frame ∧ x.expected = snap ∧
            ∃ m, x.members = [m] ∧ m.index = i ∧ m.number = st.number ∧ m.buffer = f.buffer ∧ m.lane = l)) ∧
      (∀ e, v = .early → 256 ≤ g.entries.length → g.entries.head? = some e → e.state = .opened →
        t.sorter = { s.part.sorter with
          pointer := l
          sorted := bump s.part.sorter.sorted
          discards := { s.part.sorter.discards with windowFull := bump s.part.sorter.discards.windowFull } } ∧
        t.engine = { g with counters := { g.counters with evictedEarly := bump g.counters.evictedEarly } } ∧
        Returned [f.buffer] s.part.store t.store ∧ t.egress = s.part.egress ∧
        (∀ j, t.streams.slot j = s.part.streams.slot j) ∧ t.streams.strangers = s.part.streams.strangers ∧
        t.streams.unlisted = s.part.streams.unlisted ∧ t.filing = none ∧
        -- as whole lists where the slots are in canonical form, which every step keeps
        (s.part.streams.wf = true → t.streams = s.part.streams)) ∧
      (v = .late → g.cfg.forwarding = true → s.part.egress.stragglers.length < 16 →
        t.sorter.forwarded = bump s.part.sorter.forwarded ∧
        t.sorter.discards.late = bump s.part.sorter.discards.late ∧
        t.store.freeList = s.part.store.freeList ∧ (t.store.buffer f.buffer).state = .straggling ∧ t.filing = none ∧
        t.egress.stragglers.map (fun x => (x.index, x.number, x.label, x.lane, x.age, x.buffer)) =
          s.part.egress.stragglers.map (fun x => (x.index, x.number, x.label, x.lane, x.age, x.buffer)) ++
            [(i, st.number, own, l, s.part.age st.rate own, f.buffer)] ∧
        t.stream i = some { st with
          refCount := st.refCount + 1, counters := { st.counters with late := bump st.counters.late } }) ∧
      (v = .late → g.cfg.forwarding = false ∨ 16 ≤ s.part.egress.stragglers.length →
        t.sorter = { s.part.sorter with
          pointer := l
          sorted := bump s.part.sorter.sorted
          discards := { s.part.sorter.discards with late := bump s.part.sorter.discards.late } } ∧
        t.stream i = some { st with counters := { st.counters with late := bump st.counters.late } } ∧
        Returned [f.buffer] s.part.store t.store ∧ t.engine = s.part.engine ∧ t.filing = none) ∧
      (v = .late → g.cfg.forwarding = true → 16 ≤ s.part.egress.stragglers.length →
        t.egress.counters.stragglerOverflow = bump s.part.egress.counters.stragglerOverflow ∧
        t.attention.pending.egress = true) ∧
      (v = .late → g.cfg.forwarding = false → t.egress = s.part.egress) ∧
      (v ≠ .file → v ≠ .early → v ≠ .late →
        Returned [f.buffer] s.part.store t.store ∧ t.egress = s.part.egress ∧ t.filing = none ∧
        t.engine = s.part.engine ∧ t.sorter.discards = s.part.sorter.discards.bump v ∧
        t.stream i = some (st.counted v)))

/-! ### Feed Lanes -/

/-- R105 to R109, R112 to R114, R125, R187: what a byte on a lane line does: hunting, headers, the claim of a buffer, its
bytes, and the end of the frame, which is queued with the flow evaluated, or lost to an empty pool, a full queue or a bad
check. Where an envelope is given up, the bytes after its lead byte are taken again, as if they arrived then; with no lead
byte among them the receiver is left hunting. A lane that does not listen takes nothing. An envelope that is stepped over
retains no bytes (the model's choice, log 43). -/
def Obligations.LaneLineBytes : Prop :=
  ∀ (s : State) (l : LaneId) (b : Byte), s.part.Ready →
    let x := s.part.lane l
    let ret := x.rx.retained ++ [b]
    let now := s.part.clock
    let gap := x.gapMs * 1000000
    let hunting := (x.rx.heard now gap).hunt
    let becomes := fun (i : Instr) (y : Lane) => exec i s = .next { s with part := s.part.onLane l (fun _ => y) }
    let badHeader : Lane := { x with
      rx := hunting, counters := { x.counters with headerError := bump x.counters.headerError } }
    let badCheck := fun (t : Part) =>
      t = { s.part.onLane l (fun x => { x with
          rx := hunting
          claimed := none
          counters := { x.counters with checkError := bump x.counters.checkError } }) with store := t.store } ∧
      ReturnedIf x.claimed s.part.store t.store
    (s.part.listening l = false → exec (.laneByte l b) s = .next s ∧ exec (.laneHeader l b) s = .next s ∧
      exec (.laneFrameEnd l b) s = .next s) ∧
    (s.part.listening l = true →
      (x.rx.phase = .seek → b = leadByte → becomes (.laneByte l b) { x with rx := ⟨.header, [b], now, gap⟩ }) ∧
      (x.rx.phase = .seek → b ≠ leadByte → becomes (.laneByte l b) { x with rx := x.rx.heard now gap }) ∧
      (x.rx.phase = .header → ret.length < 5 → becomes (.laneByte l b) { x with rx := ⟨.header, ret, now, gap⟩ }) ∧
      (∀ n, x.rx.phase = .skip n → 1 < n →
        becomes (.laneByte l b) { x with rx := ⟨.skip (n - 1), x.rx.retained, now, gap⟩ }) ∧
      (∀ n, x.rx.phase = .skip n → n ≤ 1 → becomes (.laneByte l b) { x with rx := hunting }) ∧
      (x.rx.phase = .header → ret.length = 5 → 288 < field ret 2 3 →
        ((∀ y ∈ ret.tail, y ≠ leadByte) → becomes (.laneHeader l b) badHeader) ∧
        exec (.laneHeader l b) s =
          runAll (ret.tail.map (.laneByte l)) { s with part := s.part.onLane l (fun _ => badHeader) }) ∧
      (x.rx.phase = .header → ret.length = 5 → field ret 2 3 ≤ 288 → byteAt ret 1 ≠ kindMeas →
        becomes (.laneHeader l b) { x with
          rx := ⟨.skip (field ret 2 3 + 2), [], now, gap⟩
          counters := { x.counters with unexpectedKind := bump x.counters.unexpectedKind } }) ∧
      (∀ n rest, x.rx.phase = .header → ret.length = 5 → field ret 2 3 ≤ 288 → byteAt ret 1 = kindMeas →
        s.part.store.freeList = n :: rest → Completes (.laneHeader l b) s (fun t =>
          t = { s.part.onLane l (fun x => { x with
              rx := ⟨.body (field ret 2 3), ret, now, gap⟩, claimed := some n }) with
            store := t.store, attention := t.attention, control := t.control } ∧
          t.store = { s.part.store with
            buffers := t.store.buffers
            freeList := rest
            below := decide (rest.length < s.part.store.lowMark)
            lowestFree := min s.part.store.lowestFree rest.length } ∧
          t.store.buffer n = ⟨.filling, [], []⟩ ∧ (∀ m, m ≠ n → t.store.buffer m = s.part.store.buffer m) ∧
          (s.part.store.below = false → t.store.below = true → Raised .pool s.part t) ∧
          (¬ (s.part.store.below = false ∧ t.store.below = true) →
            t.attention = s.part.attention ∧ t.control = s.part.control))) ∧
      (x.rx.phase = .header → ret.length = 5 → field ret 2 3 ≤ 288 → byteAt ret 1 = kindMeas →
        s.part.store.freeList = [] → Completes (.laneHeader l b) s (fun t =>
          t = { s.part.onLane l (fun x => { x with
              rx := ⟨.body (field ret 2 3), ret, now, gap⟩, claimed := none }) with
            store := { s.part.store with claimsFailed := bump s.part.store.claimsFailed }
            attention := t.attention
            control := t.control } ∧ Raised .pool s.part t)) ∧
      (∀ len n, x.rx.phase = .body len → ret.length ≤ 5 + len → x.claimed = some n →
        Completes (.laneByte l b) s (fun t =>
          t = { s.part.onLane l (fun x => { x with rx := ⟨.body len, ret, now, gap⟩ }) with
            store := { s.part.store with buffers := t.store.buffers } } ∧
          (t.store.buffer n).body = (s.part.store.buffer n).body ++ [b] ∧
          ∀ m, m ≠ n → t.store.buffer m = s.part.store.buffer m)) ∧
      (∀ len, x.rx.phase = .body len → ret.length ≤ 5 + len → x.claimed = none →
        becomes (.laneByte l b) { x with rx := ⟨.body len, ret, now, gap⟩ }) ∧
      (∀ len, x.rx.phase = .body len → ret.length = 6 + len →
        becomes (.laneByte l b) { x with rx := ⟨.body len, ret, now, gap⟩ }) ∧
      (∀ len, x.rx.phase = .body len → ret.length = 7 + len → ¬ checkGood len ret →
        ((∀ y ∈ ret.tail, y ≠ leadByte) → Completes (.laneFrameEnd l b) s badCheck) ∧
        ∃ u, badCheck u ∧
          exec (.laneFrameEnd l b) s = runAll (ret.tail.map (.laneByte l)) { s with part := u }) ∧
      (∀ len, x.rx.phase = .body len → ret.length = 7 + len → checkGood len ret → x.claimed = none →
        becomes (.laneFrameEnd l b) { x with
          rx := hunting, counters := { x.counters with poolEmpty := bump x.counters.poolEmpty } }) ∧
      (∀ len n, x.rx.phase = .body len → ret.length = 7 + len → checkGood len ret → x.claimed = some n →
        x.queue.length < 64 → Completes (.laneFrameEnd l b) s (fun t =>
          t.store = (s.part.store.pass n .queued) ∧ (∀ m, m ≠ l → t.lane m = s.part.lane m) ∧
          t.lane l = Lane.tested false { x with
            rx := hunting
            claimed := none
            queue := x.queue ++ [⟨n, len⟩]
            peak := max x.peak (x.queue.length + 1)
            flow := flowAfter x.highMark x.lowMark (x.queue.length + 1) x.flow
            counters := { x.counters with frames := bump x.counters.frames } })) ∧
      (∀ len n, x.rx.phase = .body len → ret.length = 7 + len → checkGood len ret → x.claimed = some n →
        64 ≤ x.queue.length → Completes (.laneFrameEnd l b) s (fun t =>
          t = { s.part.onLane l (fun x => { x with
              rx := hunting
              claimed := none
              deltas := { x.deltas with overrun := true }
              counters := { x.counters with overrun := bump x.counters.overrun } }) with
            store := t.store, attention := t.attention, control := t.control } ∧
          Returned [n] s.part.store t.store ∧ (x.deltas.any = false → Raised .lane s.part t) ∧
          (x.deltas.any = true → t.attention = s.part.attention ∧ t.control = s.part.control))))

/-- R114: when a flow frame has been sent the conditions are tested again: the due frame starts where it differs from the
last one and neither ISOLATE nor loopback stops it. It becomes the last flow frame and is counted; a HOLD sets the HOLD
sent delta. With none being sent nothing happens (the model's choice, log 5). -/
def Obligations.FlowFrameEndTestsAgain : Prop :=
  ∀ (s : State) (l : LaneId), s.part.Ready →
    let x := s.part.lane l
    let due : FlowKind := if x.flow = .held then .hold else .go
    let stays := x.lastFlow = some due ∨ s.part.pins.isolate = true ∨ x.loopback = true
    (x.flowTx = none → exec (.flowFrameEnd l) s = .next s) ∧
    (x.flowTx ≠ none → stays → exec (.flowFrameEnd l) s =
      .next { s with part := s.part.onLane l (fun x => { x with flowTx := none }) }) ∧
    (x.flowTx ≠ none → ¬ stays → x.flow = .flowing → exec (.flowFrameEnd l) s =
      .next { s with part := s.part.onLane l (fun x => { x with
        lastFlow := some .go, flowTx := some .go, counters := { x.counters with goSent := bump x.counters.goSent } }) }) ∧
    (x.flowTx ≠ none → ¬ stays → x.flow = .held → Completes (.flowFrameEnd l) s (fun t =>
      t = { s.part.onLane l (fun x => { x with
          lastFlow := some .hold
          flowTx := some .hold
          deltas := { x.deltas with hold := true }
          counters := { x.counters with holdSent := bump x.counters.holdSent } }) with
        attention := t.attention, control := t.control } ∧
      (x.deltas.any = false → Raised .lane s.part t) ∧
      (x.deltas.any = true → t.attention = s.part.attention ∧ t.control = s.part.control)))

/-- R113, R114, R117, R118: CONFIGURE_LANE puts marks, gap limit and the lane's enabling in force; a lane that is
disabled abandons what it is receiving and is FLOWING, and keeps its queue; otherwise the flow state is evaluated with
the new marks; and the flow frame due starts where it may. A lane that stays disabled sends nothing. -/
def Obligations.ConfigureLaneTakesEffect : Prop :=
  ∀ (s : State) (e : RequestEntry), s.part.Runs 0x40 e → e.params.length = 5 →
    let hi := field e.params 2 1
    let lo := field e.params 3 1
    let gap := field e.params 4 1
    let inRange := (byteAt e.params 0).toNat ≤ 3 ∧ (byteAt e.params 1).toNat ≤ 1 ∧ 1 ≤ lo ∧ lo < hi ∧ hi ≤ 63 ∧ 1 ≤ gap ∧
      gap ≤ 100
    (¬ inRange → Refuses .configureLane e .range s) ∧
    (∀ (l : LaneId) (on : Bool), inRange → (byteAt e.params 0).toNat = l.val → on = decide (byteAt e.params 1 = 1) →
      Completes .configureLane s (fun t =>
        let x := s.part.lane l
        let cut := x.enabled && !on
        Answered e .done [] s.part t ∧ (∀ m, m ≠ l → t.lane m = s.part.lane m) ∧
        t = { s.part with
          lanes := t.lanes, store := t.store, attention := t.attention, control := t.control } ∧
        t.lane l = Lane.tested (s.part.pins.isolate || (!x.enabled && !on)) { x with
          enabled := on
          highMark := hi
          lowMark := lo
          gapMs := gap
          rx := if x.enabled = on then x.rx else x.rx.hunt
          claimed := if x.enabled = on then x.claimed else none
          flow := if on then flowAfter hi lo x.queue.length x.flow else if x.enabled then .flowing else x.flow
          counters := { x.counters with
            abandoned := if cut && x.rx.receiving then bump x.counters.abandoned else x.counters.abandoned } } ∧
        ReturnedIf (if cut && x.rx.receiving then x.claimed else none) s.part.store t.store))

/-- R114, R115, R178, R179: SET_LOOPBACK changes the flag, sets the carrier delta, on setting abandons what the lane is
receiving, and on clearing tests R114; a flag that has the value already changes nothing. The reply carries the lane, the
flag and the line status. -/
def Obligations.SetLoopbackChangesFlag : Prop :=
  ∀ (s : State) (e : RequestEntry), s.part.Runs 0x60 e → e.params.length = 2 →
    let inRange := (byteAt e.params 0).toNat ≤ 3 ∧ (byteAt e.params 1).toNat ≤ 1
    (¬ inRange → Refuses .setLoopback e .range s) ∧
    (∀ (l : LaneId) (on : Bool), inRange → (byteAt e.params 0).toNat = l.val → on = decide (byteAt e.params 1 = 1) →
      Completes .setLoopback s (fun t =>
        let x := s.part.lane l
        let line := if on then 2 else if s.part.pins.carrier.get l then 0 else 1
        Answered e .done (be 1 l.val ++ [if on then 0x01#8 else 0x00#8] ++ be 1 line) s.part t ∧
        (x.loopback = on → t = { s.part with control := t.control }) ∧
        (x.loopback ≠ on →
          (∀ m, m ≠ l → t.lane m = s.part.lane m) ∧
          t = { s.part with
            lanes := t.lanes, store := t.store, attention := t.attention, control := t.control } ∧
          t.lane l = Lane.tested s.part.pins.isolate { x with
            loopback := on
            rx := if on then x.rx.hunt else x.rx
            claimed := if on then none else x.claimed
            deltas := { x.deltas with carrier := true }
            counters := { x.counters with
              abandoned := if on && x.rx.receiving then bump x.counters.abandoned else x.counters.abandoned } } ∧
          ReturnedIf (if on && x.rx.receiving then x.claimed else none) s.part.store t.store ∧
          (x.deltas.any = false → Raised .lane s.part t))))

/-- R112, R113, R125, R127, R180, R181: INJECT_FRAME into a lane that is enabled and looped claims a buffer, writes the
body and queues the frame as R108 does, its peak fill and flow state following, or reports the empty pool, the full
queue (the buffer is returned) or a malformed envelope. A claim that takes the free count below the low mark raises
POOL. That the buffer is absent from the reply for a malformed envelope is the model's choice (log 16). -/
def Obligations.InjectFrameQueues : Prop :=
  ∀ (s : State) (e : RequestEntry), s.part.Runs 0x61 e → 3 ≤ e.params.length → e.params.length ≤ 1022 →
    let body := e.params.drop 3
    let good := body.length ≤ 288 ∧ field e.params 1 2 = body.length
    (4 ≤ (byteAt e.params 0).toNat → Refuses .injectFrame e .range s) ∧
    (∀ l : LaneId, (byteAt e.params 0).toNat = l.val →
      let x := s.part.lane l
      (x.loopback = false ∨ x.enabled = false → Refuses .injectFrame e .state s) ∧
      (x.loopback = true → x.enabled = true → ¬ good → Completes .injectFrame s (fun t =>
        Answered e .done ([0x03#8] ++ be 2 x.queue.length ++ [0x00#8]) s.part t ∧
        t = { s.part with control := t.control })) ∧
      (x.loopback = true → x.enabled = true → good → s.part.store.freeList = [] → Completes .injectFrame s (fun t =>
        Answered e .done ([0x01#8] ++ be 2 x.queue.length ++ [0x00#8]) s.part t ∧
        t = { s.part.onLane l (fun x => { x with
            counters := { x.counters with poolEmpty := bump x.counters.poolEmpty } }) with
          store := { s.part.store with claimsFailed := bump s.part.store.claimsFailed }
          attention := t.attention
          control := t.control } ∧ Raised .pool s.part t)) ∧
      (∀ n rest, x.loopback = true → x.enabled = true → good → s.part.store.freeList = n :: rest →
        x.queue.length < 64 → Completes .injectFrame s (fun t =>
          Answered e .done ([0x00#8] ++ be 2 (x.queue.length + 1) ++ [0x01#8] ++ be 2 n) s.part t ∧
          t = { s.part.onLane l (fun x => { x with
              queue := x.queue ++ [⟨n, body.length⟩]
              peak := max x.peak (x.queue.length + 1)
              flow := flowAfter x.highMark x.lowMark (x.queue.length + 1) x.flow
              counters := { x.counters with frames := bump x.counters.frames } }) with
            store := t.store, attention := t.attention, control := t.control } ∧
          t.store = { s.part.store with
            buffers := t.store.buffers
            freeList := rest
            below := decide (rest.length < s.part.store.lowMark)
            lowestFree := min s.part.store.lowestFree rest.length } ∧
          t.store.buffer n = ⟨.queued, body, []⟩ ∧ (∀ m, m ≠ n → t.store.buffer m = s.part.store.buffer m) ∧
          (s.part.store.below = false → t.store.below = true → Raised .pool s.part t) ∧
          (¬ (s.part.store.below = false ∧ t.store.below = true) → t.attention = s.part.attention))) ∧
      (∀ n rest, x.loopback = true → x.enabled = true → good → s.part.store.freeList = n :: rest →
        64 ≤ x.queue.length → Completes .injectFrame s (fun t =>
          Answered e .done ([0x02#8] ++ be 2 x.queue.length ++ [0x01#8] ++ be 2 n) s.part t ∧
          t = { s.part.onLane l (fun x => { x with
              deltas := { x.deltas with overrun := true }
              counters := { x.counters with overrun := bump x.counters.overrun } }) with
            store := t.store, attention := t.attention, control := t.control } ∧
          t.store = { s.part.store with
            buffers := t.store.buffers
            freeList := rest ++ [n]
            below := decide (rest.length + 1 < s.part.store.lowMark)
            lowestFree := min s.part.store.lowestFree rest.length } ∧
          (s.part.store.wf = true → t.store.buffer n = ⟨.free, body, []⟩) ∧ (∀ m, m ≠ n → t.store.buffer m = s.part.store.buffer m) ∧
          (let crosses := !s.part.store.below && decide (rest.length < s.part.store.lowMark)
           t.attention.pending = { s.part.attention.pending with
             pool := s.part.attention.pending.pool || crosses
             lane := s.part.attention.pending.lane || !x.deltas.any } ∧
           t.attention.mask = s.part.attention.mask ∧
           (crosses = false → x.deltas.any = false → Raised .lane s.part t) ∧
           (crosses = true → x.deltas.any = true → Raised .pool s.part t) ∧
           (crosses = false → x.deltas.any = true → t.attention = s.part.attention)))))

/-! ### Payload Store -/

/-- R127, R128, R131, R182: SWEEP_STORE starts a sweep from index 0 with its results at 0, and reports the retired
count; the reply goes first, and the sweep then proceeds; it is refused while one runs. R183: every index that is not
FREE is passed over, and the first FREE one is withdrawn and tested: the lowest free count follows, and where the free
count falls below the low mark POOL is raised; a verdict returns the buffer to the tail of the free list or retires it,
and the sweep goes on from the next index. The model's choices: a SWEEPING buffer is shown with an empty body (log 40),
and a verdict with no buffer under test changes nothing (log 5). -/
def Obligations.SweepVisitsFreeBuffers : Prop :=
  let visits := fun (p t : Part) (start skipped : Nat) =>
    (∀ n, start ≤ n → n < 16384 → (p.store.buffer n).state = .free →
      (∀ m, start ≤ m → m < n → (p.store.buffer m).state ≠ .free) →
      t.store.sweep.running = true ∧ t.store.sweep.next = n ∧ t.store.sweep.testing = some n ∧
      t.store.sweep.skipped = skipped + (n - start) ∧ t.store.buffer n = ⟨.sweeping, [], []⟩ ∧
      (∀ m, m ≠ n → t.store.buffer m = p.store.buffer m) ∧
      t.store = { p.store with
        buffers := t.store.buffers
        freeList := p.store.freeList.erase n
        below := decide ((p.store.freeList.erase n).length < p.store.lowMark)
        lowestFree := min p.store.lowestFree (p.store.freeList.erase n).length
        sweep := t.store.sweep } ∧
      (p.store.below = false → t.store.below = true → Raised .pool p t) ∧
      (¬ (p.store.below = false ∧ t.store.below = true) → t.attention = p.attention)) ∧
    ((∀ n, start ≤ n → n < 16384 → (p.store.buffer n).state ≠ .free) → start ≤ 16384 →
      t.store.sweep.running = false ∧ t.store.sweep.next = 16384 ∧ t.store.sweep.testing = none ∧
      t.store.sweep.skipped = skipped + (16384 - start) ∧ t.store = { p.store with sweep := t.store.sweep } ∧
      t.attention = p.attention)
  (∀ (s : State) (e : RequestEntry), s.part.Runs 0x62 e → e.params = [] →
    (s.part.store.sweep.running = true → Refuses .sweepStore e .state s) ∧
    (s.part.store.sweep.running = false → Completes .sweepStore s (fun t =>
      Answered e .done (be 2 s.part.store.retiredCount) s.part t ∧ visits s.part t 0 0 ∧
      (s.part.pins.isolate = false → s.part.control.inFlight = none →
        ∃ m, t.control.inFlight = some m ∧ m.source ≠ .notice) ∧
      t.store.sweep.tested = 0 ∧ t.store.sweep.passed = 0 ∧ t.store.sweep.retired = 0 ∧
      t = { s.part with store := t.store, attention := t.attention, control := t.control }))) ∧
  ∀ (s : State) (pass : Bool), s.part.Ready →
    (s.part.store.sweep.testing = none → exec (.sweepVerdict pass) s = .next s) ∧
    (∀ n, s.part.store.sweep.testing = some n → Completes (.sweepVerdict pass) s (fun t =>
      let w := s.part.store.sweep
      let mid := { s.part with store :=
        if pass then (returnBuffers [n] s.part).store else s.part.store.pass n .retired }
      t.store.sweep.tested = w.tested + 1 ∧ t.store.sweep.passed = w.passed + (if pass then 1 else 0) ∧
      t.store.sweep.retired = w.retired + (if pass then 0 else 1) ∧
      (w.running = true → visits mid t (w.next + 1) w.skipped) ∧
      (pass = true → Returned [n] s.part.store mid.store) ∧
      (pass = false → mid.store.buffer n = { s.part.store.buffer n with state := .retired } ∧
        (∀ m, m ≠ n → mid.store.buffer m = s.part.store.buffer m) ∧
        mid.store = { s.part.store with buffers := mid.store.buffers }) ∧
      t = { s.part with store := t.store, attention := t.attention, control := t.control }))

/-- R133, R127: the low mark a SET_POOL_MARK carries takes effect at once. A mark above the free count makes an ABOVE
store BELOW and raises POOL; a mark at or below it makes the store ABOVE and raises nothing. RESTART ALIGNMENT keeps the
mark and the other reset events set it to 1,024. -/
def Obligations.PoolMarkTakesEffect : Prop :=
  (∀ (s : State) (e : RequestEntry), s.part.Runs 0x49 e →
    (e.params.length ≠ 2 → Refuses .setPoolMark e .malformed s) ∧
    (e.params.length = 2 → 16384 < field e.params 0 2 → Refuses .setPoolMark e .range s) ∧
    (e.params.length = 2 → field e.params 0 2 ≤ 16384 → Completes .setPoolMark s (fun t =>
      let below := decide (s.part.store.freeList.length < field e.params 0 2)
      Answered e .done [] s.part t ∧
      t = { s.part with
        store := { s.part.store with lowMark := field e.params 0 2, below := below }
        attention := t.attention
        control := t.control } ∧
      (s.part.store.below = false → below = true → Raised .pool s.part t) ∧
      (s.part.store.below = true ∨ below = false → t.attention = s.part.attention)))) ∧
  (∀ (s t : State) (st : Straps), (exec (.powerOn st) s = .next t ∨ exec (.pin st) s = .next t) →
    t.part.store.lowMark = 1024) ∧
  (∀ (s t : State) (e : RequestEntry), s.part.Runs 0x02 e → e.params = [0x00#8] → exec .restartFull s = .next t →
    t.part.store.lowMark = 1024) ∧
  (∀ (s t : State) (e : RequestEntry), s.part.Runs 0x02 e → e.params = [0x01#8] → exec .restartAlignment s = .next t →
    t.part.store.lowMark = s.part.store.lowMark)

/-! ### Set Link -/

/-- R36, R37, R75, R136, R137, R143: the end of a record gives its place, its buffers and its streams' references back
and is counted: the buffers are FREE, with the low-mark state following, and only a release or the reading of the next
record touches the Payload Store otherwise; a RETIRING stream without references becomes VACANT. The next record starts
where one waits and nothing stops the transmitter. While a realignment runs, entries may then leave, oldest first, each
counted in its totals; how many is free (the model's choice, log 7). With nothing in flight nothing happens (the model's
choice, log 5). -/
def Obligations.RecordEndGivesBack : Prop :=
  ∀ s : State, s.part.Ready →
    let g := s.part.egress
    let released := fun (t : Part) (i : Nat) => ∀ x, s.part.stream i = some x →
      (x.state ≠ .retiring ∨ 2 ≤ x.refCount → t.streams.slot i =
        ⟨some { x with refCount := x.refCount - 1 }, (s.part.streams.slot i).mark⟩) ∧
      (x.state = .retiring → x.refCount ≤ 1 → t.streams.slot i = ⟨none, true⟩ ∧ t.attention.pending.stream = true)
    (g.inFlight = none → exec .recordEnd s = .next s) ∧
    (∀ f r q, g.inFlight = some f → f.kind = .set → g.releaseQueue = r :: q →
      Completes .recordEnd s (fun t =>
        let w := s.part.engine
        let givesBack :=
          GivenBack (r.members.map Member.buffer) (w.entries.flatMap (fun x => x.members.map Member.buffer)) s.part t ∧
          ((r.members.map Member.index).Nodup →
            (∀ m ∈ r.members, released t m.index) ∧
            ∀ i, (∀ m ∈ r.members, m.index ≠ i) → t.streams.slot i = s.part.streams.slot i)
        t.egress.counters.setsSent = bump g.counters.setsSent ∧
        (s.part.store.freeList ++ r.members.map Member.buffer) <+: t.store.freeList ∧
        (q.map SetRecord.label) <+: (t.egress.releaseQueue.map SetRecord.label) ∧
        (w.realign = none → givesBack) ∧
        (∀ z, w.realign = some z → w.mode = .reinit →
          ∃ y n, t.engine.realign = some y ∧ y.cfg = z.cfg ∧ n ≤ w.entries.length ∧ t.engine.entries = w.entries.drop n ∧
            z.tally.released ≤ y.tally.released ∧ z.tally.dropped ≤ y.tally.dropped ∧
            z.tally.suppressed ≤ y.tally.suppressed ∧
            y.tally.released + y.tally.dropped + y.tally.suppressed =
              z.tally.released + z.tally.dropped + z.tally.suppressed + n ∧
            (q.length + w.entries.length ≤ 32 → y.tally.dropped = z.tally.dropped) ∧
            (y.tally.dropped = z.tally.dropped → givesBack)) ∧
        (s.part.stopped = true → t.egress.inFlight = none) ∧
        (s.part.stopped = false → (t.egress.inFlight = none ↔ t.egress.releaseQueue = [] ∧ t.egress.stragglers = [])) ∧
        t.timeBase = s.part.timeBase ∧ t.sorter = s.part.sorter ∧ t.lanes = s.part.lanes)) ∧
    (∀ f r q, g.inFlight = some f → f.kind = .strag → g.stragglers = r :: q →
      Completes .recordEnd s (fun t =>
        t.egress.counters.stragglersSent = bump g.counters.stragglersSent ∧
        GivenBack [r.buffer] [] s.part t ∧
        t.egress.stragglers.map StragglerRecord.buffer = q.map StragglerRecord.buffer ∧
        t.egress.releaseQueue.map SetRecord.label = g.releaseQueue.map SetRecord.label ∧
        released t r.index ∧ (∀ i, i ≠ r.index → t.streams.slot i = s.part.streams.slot i) ∧
        (s.part.stopped = true → t.egress.inFlight = none) ∧
        (s.part.stopped = false → (t.egress.inFlight = none ↔ t.egress.releaseQueue = [] ∧ t.egress.stragglers = [])) ∧
        t.engine = s.part.engine ∧ t.timeBase = s.part.timeBase ∧ t.sorter = s.part.sorter ∧ t.lanes = s.part.lanes))


/-- R148: HOLD_EGRESS makes the host hold present and RESUME_EGRESS makes it absent, whether or not it was; each is
refused with MALFORMED when parameter bytes are present; neither touches the consumer pause. A hold alone changes
nothing else; its removal may start a record. -/
def Obligations.HostHoldFollowsRequests : Prop :=
  ∀ (s : State) (e : RequestEntry),
    (s.part.Runs 0x51 e →
      (e.params ≠ [] → Refuses .holdEgress e .malformed s) ∧
      (e.params = [] → Completes .holdEgress s (fun t => Answered e .done [] s.part t ∧
        t = { s.part with egress := { s.part.egress with hostHold := true }, control := t.control }))) ∧
    (s.part.Runs 0x52 e →
      (e.params ≠ [] → Refuses .resumeEgress e .malformed s) ∧
      (e.params = [] → Completes .resumeEgress s (fun t => Answered e .done [] s.part t ∧
        t.egress.hostHold = false ∧ t.egress.pausedAt = s.part.egress.pausedAt ∧
        t = { s.part with store := t.store, egress := t.egress, control := t.control } ∧
        (s.part.egress.inFlight.isSome = true ∨ s.part.egress.pausedAt.isSome = true ∨ s.part.pins.isolate = true →
          t.egress = { s.part.egress with hostHold := false } ∧ t.store = s.part.store) ∧
        (s.part.egress.inFlight = none → s.part.egress.pausedAt = none → s.part.pins.isolate = false →
          (t.egress.inFlight = none ↔ s.part.egress.releaseQueue = [] ∧ s.part.egress.stragglers = [])))))

/-- R129, R130, R139, R140, R141, R142, R189: what a record that starts holds (here on the removal of a host hold). A SET
carries its members in order, each read from its buffer, and the missing numbers; a STRAG carries its one body. A buffer
with one wrong bit is corrected and counted; one with more is counted, and its values are replaced as R130 says (three and
more are read like two: DEDUCED, log 4). And the arbiter's choice: a queue that alone holds a record sets the count to 0;
with both, four sets go before a straggler; and a record that is sent again goes first and leaves the count. -/
def Obligations.RecordsChosenAndFormed : Prop :=
  (∀ (s : State) (e : RequestEntry), s.part.Runs 0x52 e → e.params = [] → s.part.egress.inFlight = none →
    s.part.egress.pausedAt = none → s.part.pins.isolate = false →
    let g := s.part.egress
    let rest := fun (b : List Byte) => (b.drop 13).take 3 ++ (b.drop 16).take 8 ++ b.drop 24
    (∀ r q, g.releaseQueue = r :: q → g.stragglers = [] →
      (∀ m ∈ r.members, (s.part.store.buffer m.buffer).wrongBits = []) →
      Completes .resumeEgress s (fun t =>
        t.store = s.part.store ∧ t.egress.releaseQueue = { r with send := .sending } :: q ∧
        t.egress.stragglers = [] ∧
        t.egress.counters.resent = (if r.send = .resend then bump g.counters.resent else g.counters.resent) ∧
        t.egress.inFlight = some (setAsSent s.part.straps.node s.part.store r))) ∧
    (∀ r q, g.releaseQueue = r :: q → g.stragglers = [] → s.part.store.wf = true → (r.members.map Member.buffer).Nodup →
      let wrong := fun (m : Member) => (s.part.store.buffer m.buffer).wrongBits.length
      Completes .resumeEgress s (fun t =>
        t.egress.releaseQueue = { r with send := .sending } :: q ∧ t.egress.stragglers = [] ∧
        t.egress.inFlight = some (setAsSent s.part.straps.node s.part.store r) ∧
        t.store = { s.part.store with
          buffers := t.store.buffers
          corrections := bumpedBy (r.members.countP (fun m => wrong m = 1)) s.part.store.corrections
          damagedReads := bumpedBy (r.members.countP (fun m => 2 ≤ wrong m)) s.part.store.damagedReads } ∧
        ∀ n, t.store.buffer n =
          if ∃ m ∈ r.members, m.buffer = n ∧ wrong m = 1 then { s.part.store.buffer n with wrongBits := [] }
          else s.part.store.buffer n)) ∧
    (∀ r q, g.releaseQueue = [] → g.stragglers = r :: q →
      let b := s.part.store.buffer r.buffer
      let own := be 4 r.number ++ be 2 r.index ++ be 4 r.label.second ++ be 2 r.label.tick ++ be 1 r.lane.val ++ be 2 r.age
      let whole := own ++ be 1 (frameQuality b.body) ++ be 2 (frameFlags b.body).toNat ++ rest b.body
      Completes .resumeEgress s (fun t =>
        t.egress.stragglers = { r with send := .sending } :: q ∧ t.egress.releaseQueue = [] ∧
        (b.wrongBits = [] → t.store = s.part.store ∧
          t.egress.inFlight = some ⟨.strag, envelope kindStrag whole⟩) ∧
        (∀ k, b.wrongBits = [k] → t.store.corrections = bump s.part.store.corrections ∧
          t.store.damagedReads = s.part.store.damagedReads ∧
          (s.part.store.wf = true → (t.store.buffer r.buffer).stored = b.body) ∧
          t.egress.inFlight = some ⟨.strag, envelope kindStrag whole⟩) ∧
        (2 ≤ b.wrongBits.length → t.store = { s.part.store with damagedReads := bump s.part.store.damagedReads } ∧
          t.egress.inFlight = some ⟨.strag, envelope kindStrag
            (own ++ [0x0F#8, 0x04#8, 0x00#8, 0x00#8, 0x00#8, 0x00#8] ++ List.replicate 8 0x00#8)⟩)))) ∧
  (∀ (e : Egress),
    (e.releaseQueue = [] → e.stragglers = [] → e.choose = none) ∧
    (∀ r q, e.releaseQueue = r :: q → e.stragglers = [] → r.send ≠ .resend → e.choose = some (.set, 0)) ∧
    (∀ r q, e.releaseQueue = [] → e.stragglers = r :: q → r.send ≠ .resend → e.choose = some (.strag, 0)) ∧
    (∀ r q, e.releaseQueue = r :: q → r.send = .resend → e.choose = some (.set, e.arbiter)) ∧
    (∀ r q, e.stragglers = r :: q → r.send = .resend → (∀ x, e.releaseQueue.head? = some x → x.send ≠ .resend) →
      e.choose = some (.strag, e.arbiter)) ∧
    (∀ r q x y, e.releaseQueue = r :: q → e.stragglers = x :: y → r.send ≠ .resend → x.send ≠ .resend →
      (e.arbiter < 4 → e.choose = some (.set, e.arbiter + 1)) ∧ (4 ≤ e.arbiter → e.choose = some (.strag, 0))))

/-- R109, R145, R146, R187: what a byte on SET_RX does. A PAUSE makes the pause present, and one already present stands;
a RESUME removes it; an envelope that is too long, of another kind or with a bad check is counted. Where one is given
up, the bytes after its lead byte are taken again, as if they arrived then; with no lead byte among them the receiver is
left hunting. Under ISOLATE nothing is taken. An envelope that is stepped over retains no bytes (the model's choice, log
43). -/
def Obligations.ReturnLineBytes : Prop :=
  ∀ (s : State) (b : Byte), s.part.Ready →
    let g := s.part.egress
    let ret := g.rx.retained ++ [b]
    let now := s.part.clock
    let hunting := (g.rx.heard now 2000000).hunt
    let becomes := fun (i : Instr) (h : Egress) => exec i s = .next { s with part := { s.part with egress := h } }
    let failed := { g.counters with returnErrors := bump g.counters.returnErrors }
    let givenUp :=
      ((∀ y ∈ ret.tail, y ≠ leadByte) → becomes (.returnEnvelopeError b) { g with rx := hunting, counters := failed }) ∧
      exec (.returnEnvelopeError b) s = runAll (ret.tail.map .returnLinkByte)
        { s with part := { s.part with egress := { g with rx := hunting, counters := failed } } }
    (s.part.pins.isolate = true → exec (.pause b) s = .next s ∧ exec (.resume b) s = .next s ∧
      exec (.returnEnvelopeError b) s = .next s ∧ exec (.returnLinkByte b) s = .next s) ∧
    (s.part.pins.isolate = false →
      (g.rx.phase = .body 0 → ret.length = 7 → checkGood 0 ret → byteAt ret 1 = kindPause →
        becomes (.pause b) { g with
          rx := hunting, pausedAt := if g.pausedAt.isSome then g.pausedAt else some now }) ∧
      (g.rx.phase = .body 0 → ret.length = 7 → checkGood 0 ret → byteAt ret 1 ≠ kindPause → g.pausedAt = none →
        becomes (.resume b) { g with rx := hunting }) ∧
      (g.rx.phase = .body 0 → ret.length = 7 → checkGood 0 ret → byteAt ret 1 ≠ kindPause → g.pausedAt.isSome = true →
        Completes (.resume b) s (fun t =>
          t = { s.part with store := t.store, egress := t.egress } ∧ t.egress.pausedAt = none ∧ t.egress.rx = hunting ∧
          (g.hostHold = true ∨ g.inFlight.isSome = true → t.egress = { g with rx := hunting, pausedAt := none }) ∧
          (g.hostHold = false → g.inFlight = none →
            (t.egress.inFlight = none ↔ g.releaseQueue = [] ∧ g.stragglers = [])))) ∧
      (g.rx.phase = .body 0 → ret.length = 7 → ¬ checkGood 0 ret → givenUp) ∧
      (g.rx.phase = .header → ret.length = 5 → field ret 2 3 ≠ 0 → givenUp) ∧
      (g.rx.phase = .header → ret.length = 5 → field ret 2 3 = 0 → byteAt ret 1 ≠ kindPause → byteAt ret 1 ≠ kindResume →
        becomes (.returnEnvelopeError b) { g with rx := ⟨.skip 2, [], now, 2000000⟩, counters := failed }) ∧
      (g.rx.phase = .header → ret.length = 5 → field ret 2 3 = 0 → (byteAt ret 1 = kindPause ∨ byteAt ret 1 = kindResume) →
        becomes (.returnLinkByte b) { g with rx := ⟨.body 0, ret, now, 2000000⟩ }) ∧
      (g.rx.phase = .header → ret.length < 5 → becomes (.returnLinkByte b) { g with rx := ⟨.header, ret, now, 2000000⟩ }) ∧
      (g.rx.phase = .seek → b = leadByte → becomes (.returnLinkByte b) { g with rx := ⟨.header, [b], now, 2000000⟩ }) ∧
      (g.rx.phase = .seek → b ≠ leadByte → becomes (.returnLinkByte b) { g with rx := g.rx.heard now 2000000 }) ∧
      (g.rx.phase = .body 0 → ret.length = 6 → becomes (.returnLinkByte b) { g with rx := ⟨.body 0, ret, now, 2000000⟩ }) ∧
      (∀ n, g.rx.phase = .skip n → 1 < n →
        becomes (.returnLinkByte b) { g with rx := ⟨.skip (n - 1), g.rx.retained, now, 2000000⟩ }) ∧
      (∀ n, g.rx.phase = .skip n → n ≤ 1 → becomes (.returnLinkByte b) { g with rx := hunting }))

/-- R147, R152: the pause limit expiry overrides a consumer pause that has lasted the limit: the pause ends, the
override is counted, EGRESS is raised and the transmitter starts what it may. A limit of 0 never overrides; an expiry
that is not due changes nothing (the model's choice, log 5). CONFIGURE_EGRESS puts a limit in force, and a pause that
has lasted the new limit is overridden at once; a body of the wrong length and a limit above 60,000 are refused. RESTART
ALIGNMENT keeps the limit, and the other reset events set it to 1,000. -/
def Obligations.PauseLimitOverrides : Prop :=
  let overridden := fun (p t : Part) =>
    t.egress.pausedAt = none ∧ t.egress.counters.pauseOverrides = bump p.egress.counters.pauseOverrides ∧
    t.egress.pauseLimit = p.egress.pauseLimit ∧ Raised .egress p t ∧
    (p.egress.hostHold = true ∨ p.pins.isolate = true ∨ p.egress.inFlight.isSome = true →
      t.egress.inFlight = p.egress.inFlight ∧ t.egress.releaseQueue = p.egress.releaseQueue ∧
      t.egress.stragglers = p.egress.stragglers ∧ t.store = p.store) ∧
    (p.egress.hostHold = false → p.pins.isolate = false → p.egress.inFlight = none →
      (t.egress.inFlight = none ↔ p.egress.releaseQueue = [] ∧ p.egress.stragglers = []))
  (∀ s : State, s.part.Ready →
    ((s.part.egress.pausedAt = none ∨ s.part.egress.pauseLimit = 0 ∨
        ∃ m, s.part.egress.pausedAt = some m ∧ s.part.clock < m + s.part.egress.pauseLimit * 1000000) →
      exec .pauseLimitExpiry s = .next s) ∧
    (∀ m, s.part.egress.pausedAt = some m → s.part.egress.pauseLimit ≠ 0 →
      m + s.part.egress.pauseLimit * 1000000 ≤ s.part.clock → Completes .pauseLimitExpiry s (overridden s.part))) ∧
  (∀ (s : State) (e : RequestEntry), s.part.Runs 0x50 e → e.params.length = 2 →
    let limit := field e.params 0 2
    let q := { s.part with egress := { s.part.egress with pauseLimit := limit } }
    (60000 < limit → Refuses .configureEgress e .range s) ∧
    (limit ≤ 60000 → (s.part.egress.pausedAt = none ∨ limit = 0 ∨
        ∃ m, s.part.egress.pausedAt = some m ∧ s.part.clock < m + limit * 1000000) →
      Completes .configureEgress s (fun t => Answered e .done [] s.part t ∧ t = { q with control := t.control })) ∧
    (∀ m, limit ≤ 60000 → s.part.egress.pausedAt = some m → limit ≠ 0 → m + limit * 1000000 ≤ s.part.clock →
      Completes .configureEgress s (fun t => Answered e .done [] s.part t ∧ overridden q t))) ∧
  (∀ (s : State) (e : RequestEntry), s.part.Runs 0x50 e → e.params.length ≠ 2 →
    Refuses .configureEgress e .malformed s) ∧
  (∀ (s t : State) (st : Straps), (exec (.powerOn st) s = .next t ∨ exec (.pin st) s = .next t) →
    t.part.egress.pauseLimit = 1000) ∧
  (∀ (s t : State) (e : RequestEntry), s.part.Runs 0x02 e → e.params = [0x00#8] → exec .restartFull s = .next t →
    t.part.egress.pauseLimit = 1000) ∧
  (∀ (s t : State) (e : RequestEntry), s.part.Runs 0x02 e → e.params = [0x01#8] → exec .restartAlignment s = .next t →
    t.part.egress.pauseLimit = s.part.egress.pauseLimit)

/-! ### Control Link and attention -/

/-- R109, R156, R157, R187: what a byte on CTL_RX does. A good REQ of two bytes or more is a request: it is appended,
WAITING (log 46 for when it starts), or refused with QUEUE_FULL where four are held, or discarded and counted where the
refusal slot is taken too. A shorter one, one of another kind, one too long and one with a bad check are counted. Where
an envelope is given up, the bytes after its lead byte are taken again, as if they arrived then; with no lead byte among
them the receiver is left hunting. Under ISOLATE nothing is taken. An envelope that is stepped over retains no bytes
(the model's choice, log 43). -/
def Obligations.ControlLineBytes : Prop :=
  ∀ (s : State) (b : Byte), s.part.Ready →
    let c := s.part.control
    let ret := c.rx.retained ++ [b]
    let now := s.part.clock
    let hunting := (c.rx.heard now 2000000).hunt
    let becomes := fun (i : Instr) (d : Control) => exec i s = .next { s with part := { s.part with control := d } }
    let counted : Control := { c with rx := hunting, envelopeErrors := bump c.envelopeErrors }
    let givenUp :=
      ((∀ y ∈ ret.tail, y ≠ leadByte) → becomes (.controlEnvelopeError b) counted) ∧
      exec (.controlEnvelopeError b) s =
        runAll (ret.tail.map .controlLinkByte) { s with part := { s.part with control := counted } }
    (s.part.pins.isolate = true → exec (.requestArrival b) s = .next s ∧ exec (.controlEnvelopeError b) s = .next s ∧
      exec (.controlLinkByte b) s = .next s) ∧
    (s.part.pins.isolate = false →
      (∀ n, c.rx.phase = .body (n + 2) → ret.length = 9 + n → checkGood (n + 2) ret →
        let tag := byteAt ret 5
        let code := byteAt ret 6
        let params := (ret.drop 7).take n
        (c.queue.length < 4 → becomes (.requestArrival b) { c with
          rx := hunting
          queue := c.queue ++ [⟨tag, code, params, .waiting⟩] }) ∧
        (4 ≤ c.queue.length → c.refusal = none → Completes (.requestArrival b) s (fun t =>
          t = { s.part with control := { c with
            rx := hunting
            refusal := some ⟨c.stamp, [tag, code, 0x01#8]⟩
            stamp := c.stamp + 1
            inFlight := t.control.inFlight
            notice := t.control.notice } } ∧
          (c.inFlight.isSome = true → t.control.inFlight = c.inFlight ∧ t.control.notice = c.notice) ∧
          (c.inFlight = none → Chosen s.part.straps.ctlRate
            { c with refusal := some ⟨c.stamp, [tag, code, 0x01#8]⟩ } t.control))) ∧
        (4 ≤ c.queue.length → c.refusal.isSome = true → becomes (.requestArrival b) { c with
          rx := hunting, unanswered := bump c.unanswered })) ∧
      (∀ n, n < 2 → c.rx.phase = .body n → ret.length = 7 + n → checkGood n ret →
        becomes (.controlEnvelopeError b) { c with rx := hunting, envelopeErrors := bump c.envelopeErrors }) ∧
      (∀ n, c.rx.phase = .body n → ret.length = 7 + n → ¬ checkGood n ret → givenUp) ∧
      (c.rx.phase = .header → ret.length = 5 → 1024 < field ret 2 3 → givenUp) ∧
      (c.rx.phase = .header → ret.length = 5 → field ret 2 3 ≤ 1024 → byteAt ret 1 ≠ kindReq →
        becomes (.controlEnvelopeError b) { c with
          rx := ⟨.skip (field ret 2 3 + 2), [], now, 2000000⟩, envelopeErrors := bump c.envelopeErrors }) ∧
      (c.rx.phase = .header → ret.length = 5 → field ret 2 3 ≤ 1024 → byteAt ret 1 = kindReq →
        becomes (.controlLinkByte b) { c with rx := ⟨.body (field ret 2 3), ret, now, 2000000⟩ }) ∧
      (c.rx.phase = .header → ret.length < 5 →
        becomes (.controlLinkByte b) { c with rx := ⟨.header, ret, now, 2000000⟩ }) ∧
      (c.rx.phase = .seek → b = leadByte →
        becomes (.controlLinkByte b) { c with rx := ⟨.header, [b], now, 2000000⟩ }) ∧
      (c.rx.phase = .seek → b ≠ leadByte → becomes (.controlLinkByte b) { c with rx := c.rx.heard now 2000000 }) ∧
      (∀ n, c.rx.phase = .body n → ret.length < 7 + n →
        becomes (.controlLinkByte b) { c with rx := ⟨.body n, ret, now, 2000000⟩ }) ∧
      (∀ n, c.rx.phase = .skip n → 1 < n →
        becomes (.controlLinkByte b) { c with rx := ⟨.skip (n - 1), c.rx.retained, now, 2000000⟩ }) ∧
      (∀ n, c.rx.phase = .skip n → n ≤ 1 → becomes (.controlLinkByte b) { c with rx := hunting }))

/-- R155, R158, R163: when a message has been sent its queue entry or the refusal slot is free, and the arbiter chooses
again: the reply formed earliest, or else the notice, at the CTL_RATE in force. With none in flight nothing happens (the
model's choice, log 5). A message once started is sent whole: until its end every command but POWER_ON leaves it in
flight, PIN with its entry or slot gone. -/
def Obligations.MessageEndFreesAndChooses : Prop :=
  (∀ s : State, s.part.Ready →
    let c := s.part.control
    (c.inFlight = none → exec .messageEnd s = .next s) ∧
    (∀ m, c.inFlight = some m → Completes .messageEnd s (fun t =>
      let d : Control := { c with
        inFlight := none
        queue := if m.source = .entry then dropReplied c.queue else c.queue
        refusal := if m.source = .refusal then none else c.refusal }
      t = { s.part with control := { d with inFlight := t.control.inFlight, notice := t.control.notice } } ∧
      (s.part.pins.isolate = true → t.control = d) ∧
      (s.part.pins.isolate = false → Chosen s.part.straps.ctlRate d t.control)))) ∧
  (∀ (c : Instr) (s t : State) (m : MessageInFlight), s.part.control.inFlight = some m → exec c s = .next t →
    (c ≠ .messageEnd → (∀ st, c ≠ .powerOn st ∧ c ≠ .pin st) → t.part.control.inFlight = some m) ∧
    (∀ st, c = .pin st → t.part.control.inFlight = some { m with source := .detached }) ∧
    (∀ st, c = .powerOn st → t.part.control.inFlight = none))

/-- R159, R161, R190: a request whose parameters have a length its code does not take is refused with MALFORMED, and a
code that names no request with UNKNOWN; both change nothing but the Control Link. The catalogue is listed code by code,
and every other code names no request. A request row is for the executing request of its code; where that is another, or
none, or a realignment holds the executor, the row changes nothing (log 5, 6). -/
def Obligations.RequestsAreChecked : Prop :=
  (∀ (c : Instr) (code : Nat) (s : State) (e : RequestEntry), c.requestCode = some code → s.part.Runs code e →
    (code = 0x02 → s.part.filing = none) →
    paramsAllowed code e.params.length ≠ some true → Refuses c e .malformed s) ∧
  (∀ x ∈ ([(0x01, [0]), (0x02, [1]), (0x10, [0]), (0x11, [13]), (0x12, [1]), (0x20, [10, 11]), (0x21, [2, 3, 5, 6]),
      (0x22, [2]), (0x23, [2]), (0x24, [2]), (0x25, [2]), (0x26, [0]), (0x27, [0]), (0x30, [14]), (0x31, [0]),
      (0x32, [0, 6]), (0x38, [0]), (0x40, [5]), (0x41, [1]), (0x48, [0]), (0x49, [2]), (0x50, [2]), (0x51, [0]),
      (0x52, [0]), (0x53, [0]), (0x58, [0]), (0x59, [1]), (0x60, [2]), (0x62, [0])] : List (Nat × List Nat)),
    ∀ n, paramsAllowed x.1 n = some (x.2.contains n)) ∧
  (∀ n, paramsAllowed 0x61 n = some (decide (3 ≤ n ∧ n ≤ 1022))) ∧
  (∀ code n, code ∉ [0x01, 0x02, 0x10, 0x11, 0x12, 0x20, 0x21, 0x22, 0x23, 0x24, 0x25, 0x26, 0x27, 0x30, 0x31, 0x32, 0x38,
      0x40, 0x41, 0x48, 0x49, 0x50, 0x51, 0x52, 0x53, 0x58, 0x59, 0x60, 0x61, 0x62] → paramsAllowed code n = none) ∧
  (∀ (s : State) (e : RequestEntry), s.part.Runs e.code.toNat e →
    (paramsAllowed e.code.toNat e.params.length = none → Refuses .unknownRequest e .unknown s) ∧
    (paramsAllowed e.code.toNat e.params.length ≠ none → exec .unknownRequest s = .next s)) ∧
  (∀ (c : Instr) (code : Nat) (s : State), c.requestCode = some code → s.part.started = s.part →
    (code = 0x02 → s.part.filing = none) →
    (executing s.part.control.queue = none ∨ s.part.engine.realign.isSome = true ∨
      ∃ e, executing s.part.control.queue = some e ∧ e.code.toNat ≠ code) → exec c s = .next s)

/-- R161: a request that is not DONE changes nothing but the Control Link. Its status is the same whether or not ISOLATE
withholds the reply. (The RESTART rows and CONFIGURE_ALIGNMENT have statements of their own.) -/
def Obligations.RefusedRequestChangesNothing : Prop :=
  ∀ (c : Instr) (code : Nat) (s : State) (e : RequestEntry), c.requestCode = some code → code ≠ 0x02 → code ≠ 0x30 →
    s.part.Runs code e → ∃ st, ∀ isolated : Bool,
      let u : State := { s with part := s.part.setIsolate isolated }
      Completes c u (fun t => ∃ results, Answered e st results u.part t ∧
        (st ≠ .done → results = [] ∧ t = { u.part with control := t.control }))

/-- R163, R169 to R175: READ_ATTENTION reports, and opens the gate; SET_ATTENTION_MASK replaces the mask, and ATTN
follows; then one notice, of the highest enabled cause and the pending set, is handed if the gate is open, an enabled
cause is pending and ISOLATE is not asserted, which closes the gate; it waits behind the reply. The causes rank as R170
lists them. That READ_ATTENTION reports the highest cause by that number is the model's choice (log 16). -/
def Obligations.AttentionRequestsFollow : Prop :=
  (∀ (s : State) (e : RequestEntry), s.part.Runs 0x58 e → e.params = [] →
    Completes .readAttention s (fun t =>
      let a := s.part.attention
      let due := !s.part.pins.isolate && (a.pending.inter a.mask).nonempty
      Answered e .done (opt (be 1) (if a.pending.nonempty then some a.pending.highest else none) ++ be 1 a.pending.code ++
        be 1 a.mask.code ++ flag (!a.gateOpen) ++ flag a.attn) s.part t ∧
      t = { s.part with attention := { a with gateOpen := !due }, control := t.control } ∧
      t.control.notice = (if due then some (be 1 (a.pending.inter a.mask).highest ++ be 1 a.pending.code)
        else s.part.control.notice) ∧
      (s.part.control.inFlight.isSome = true → t.control.inFlight = s.part.control.inFlight))) ∧
  (∀ (s : State) (e : RequestEntry) (k : Byte), s.part.Runs 0x59 e → e.params = [k] →
    let a := s.part.attention
    let m : CauseSet := ⟨k.getLsbD 0, k.getLsbD 1, k.getLsbD 2, k.getLsbD 3, k.getLsbD 4, k.getLsbD 5⟩
    let due := a.gateOpen && !s.part.pins.isolate && (a.pending.inter m).nonempty
    (64 ≤ k.toNat → Refuses .setAttentionMask e .range s) ∧
    (k.toNat < 64 → Completes .setAttentionMask s (fun t => Answered e .done [] s.part t ∧
      t = { s.part with
        attention := {
          pending := a.pending
          mask := m
          gateOpen := a.gateOpen && !due
          attn := !s.part.pins.isolate && (a.pending.inter m).nonempty }
        control := t.control } ∧
      t.control.notice = (if due then some (be 1 (a.pending.inter m).highest ++ be 1 a.pending.code)
        else s.part.control.notice) ∧
      (s.part.control.inFlight.isSome = true → t.control.inFlight = s.part.control.inFlight)))) ∧
  (∀ c : CauseSet,
    (c.time = true → c.highest = 1) ∧ (c.time = false → c.pool = true → c.highest = 2) ∧
    (c.time = false → c.pool = false → c.lane = true → c.highest = 3) ∧
    (c.time = false → c.pool = false → c.lane = false → c.stream = true → c.highest = 4) ∧
    (c.time = false → c.pool = false → c.lane = false → c.stream = false → c.stranger = true → c.highest = 5) ∧
    (c = ⟨false, false, false, false, false, true⟩ → c.highest = 6) ∧
    c.code = c.time.toNat + 2 * c.pool.toNat + 4 * c.lane.toNat + 8 * c.stream.toNat + 16 * c.stranger.toNat +
      32 * c.egress.toNat)

/-! ### Laws that every step keeps -/

/-- R172, R116: after every step ATTN is asserted exactly when ISOLATE is not asserted and an enabled cause is pending
(while RESET_N is low it keeps its level, R1), and LANE is pending while any lane's delta set is not empty. -/
def Obligations.AttnFollowsCauses : Prop :=
  ∀ s t : State, step s = .next t →
    (s.part.AttnFollows → t.part.AttnFollows) ∧ (s.part.LanePends → t.part.LanePends)

/-- R9, R11, R13: after every step a TRACKING Time Base's selected reference is QUALIFIED, part time is absent exactly in
UNSET, and a port that is QUALIFIED or has a good count holds a pulse record. -/
def Obligations.TimeStaysSound : Prop :=
  ∀ s t : State, s.part.TimeSound → step s = .next t → t.part.TimeSound

/-- R51, R52: after every step an IDLE engine has no strobe label, a running one has one and part time is set, and an
engine without a strobe label has an empty table. It is stated for parts that keep the laws of the Time Base. -/
def Obligations.EngineStaysTimed : Prop :=
  ∀ s t : State, s.part.TimeSound → s.part.EngineTimed → step s = .next t → t.part.EngineTimed

/-- R53, R54, R55, R59: after every step the window holds at most 256 entries, in strictly rising label order; and, the
Stream Table being in its canonical form, no entry expects an index twice, no entry or set record holds two members of
one index, and an OPEN entry counts for each class the items that are not withdrawn and have no member, its deadline
following. R20, R62, R63: no step makes an entry DUE but by completeness or by its own deadline, as it stands when the
entry falls DUE, that part time has reached. -/
def Obligations.WindowStaysOrdered : Prop :=
  ∀ s t : State, s.part.WindowOrdered → step s = .next t → t.part.WindowOrdered ∧ FellDueByRule s.part t.part ∧
    (s.part.StorageCanonical → s.part.WindowCounted → t.part.WindowCounted)

/-- R46, R112, R136, R137, R140, R157, R158: after every step no queue or list is beyond its largest size, and the request
queue is in its order. -/
def Obligations.QueuesStayBounded : Prop :=
  ∀ s t : State, step s = .next t →
    (s.part.QueuesBounded → t.part.QueuesBounded) ∧ (s.part.RequestsOrdered → t.part.RequestsOrdered)

/-- R122, R27: every step keeps the Payload Store and the Stream Table in their canonical form; R28, R31: in that form
no two entries come to hold one stream number; R127: the low-mark state is BELOW exactly while fewer buffers than the
low mark are free; and R82: sorted equals filed plus the outcome counters, until it stops. -/
def Obligations.StorageStaysCanonical : Prop :=
  ∀ s t : State, step s = .next t →
    (s.part.StorageCanonical → t.part.StorageCanonical ∧ (s.part.NumbersDistinct → t.part.NumbersDistinct)) ∧
    (s.part.PoolMarked → t.part.PoolMarked) ∧ (s.part.SortsAccounted → t.part.SortsAccounted)

/-- The reset state has every one of these laws. -/
def Obligations.LawsHoldAtReset : Prop :=
  State.reset.part.AttnFollows ∧ State.reset.part.TimeSound ∧ State.reset.part.EngineTimed ∧
    State.reset.part.WindowOrdered ∧ State.reset.part.QueuesBounded ∧ State.reset.part.RequestsOrdered ∧
    State.reset.part.StorageCanonical ∧ State.reset.part.SortsAccounted ∧ State.reset.part.BuffersAccounted ∧
    State.reset.part.ReferencesCounted ∧ State.reset.part.LabelsInOrder ∧ State.reset.part.EntriesAfterLeft ∧
    State.reset.part.NoneReturned ∧ State.reset.part.LanePends ∧ State.reset.part.PoolMarked ∧ State.reset.part.NumbersDistinct ∧
    State.reset.part.WindowCounted

/-- R123, R125, R37, R65, R136, R144: after every step no buffer has two holders, each is in its holder's state and
every buffer that is not RETIRED has a holder; each stream's reference count is the number of its members and
stragglers; the Release Queue's labels rise strictly by instant, none later than the label that left the table last, and
every entry is later than each of them. Between reset events, moreover, every entry is later than the label that left
last, and that label is never followed by an earlier one, so that no label leaves twice. A realignment that finds no
entry to take is no exception: the model's choice there is the seal of log 41, which keeps R144 where R76 leaves neither
mark nor horizon. One step of the manual's own is set apart: a label opened in the place of a later entry, where 256 are
held, is not later than the horizon its drop leaves (R59, log 37), so that law is for a window that is not full of entries
later than the strobe label. In every window, though, none but a reset event brings a label back: a label that has left
stays one that has left, an entry that leaves becomes one, and no entry is for one; the model's choice for this is to keep
the labels dropped ahead of an earlier one (log 37). It is stated for parts with an ordered window and canonical storage. -/
def Obligations.BuffersReferencesAndLabelsKeep : Prop :=
  ∀ s t : State, step s = .next t → s.part.WindowOrdered → s.part.StorageCanonical →
    (s.part.BuffersAccounted → t.part.BuffersAccounted) ∧
    (s.part.ReferencesCounted → t.part.ReferencesCounted) ∧
    (s.part.LabelsInOrder →
      t.part.LabelsInOrder ∧
      ((∀ c, s.pending.head? = some c →
          (∀ st, c ≠ .powerOn st ∧ c ≠ .pin st) ∧ c ≠ .restartFull ∧ c ≠ .restartAlignment) →
        (s.part.EntriesAfterLeft →
          (∀ e l, 256 ≤ s.part.engine.entries.length → s.part.engine.entries.head? = some e →
            s.part.engine.strobe = some l → l.lt e.label = false) →
          t.part.EntriesAfterLeft ∧ LeftStays s.part t.part) ∧
        (s.part.NoneReturned →
          t.part.NoneReturned ∧
          (∀ l f, 0 < f → s.part.HasLeft l f → t.part.HasLeft l f) ∧
          ∀ e ∈ s.part.engine.entries, (∀ z ∈ t.part.engine.entries, z.label ≠ e.label) →
            t.part.HasLeft e.label s.part.fo)))
end

