-- ==== Sys2Proof/Laws/State.lean ====
section
/-! SUPPORT. One lemma for each field of the part under each block update, true by rfl, and the reads of four-fold and
by-number values after a write. -/

namespace Sys2Proof.Machine

@[simp] theorem onTimeBase_clock (f : TimeBase → TimeBase) (p : Part) : (p.onTimeBase f).clock = p.clock := rfl
@[simp] theorem onTimeBase_idleSpan (f : TimeBase → TimeBase) (p : Part) : (p.onTimeBase f).idleSpan = p.idleSpan := rfl
@[simp] theorem onTimeBase_freeUses (f : TimeBase → TimeBase) (p : Part) : (p.onTimeBase f).freeUses = p.freeUses := rfl
@[simp] theorem onTimeBase_pins (f : TimeBase → TimeBase) (p : Part) : (p.onTimeBase f).pins = p.pins := rfl
@[simp] theorem onTimeBase_straps (f : TimeBase → TimeBase) (p : Part) : (p.onTimeBase f).straps = p.straps := rfl
@[simp] theorem onTimeBase_lastReset (f : TimeBase → TimeBase) (p : Part) : (p.onTimeBase f).lastReset = p.lastReset := rfl
@[simp] theorem onTimeBase_filing (f : TimeBase → TimeBase) (p : Part) : (p.onTimeBase f).filing = p.filing := rfl
@[simp] theorem onTimeBase_portA (f : TimeBase → TimeBase) (p : Part) : (p.onTimeBase f).portA = p.portA := rfl
@[simp] theorem onTimeBase_portB (f : TimeBase → TimeBase) (p : Part) : (p.onTimeBase f).portB = p.portB := rfl
@[simp] theorem onTimeBase_timeBase (f : TimeBase → TimeBase) (p : Part) : (p.onTimeBase f).timeBase = f p.timeBase := rfl
@[simp] theorem onTimeBase_streams (f : TimeBase → TimeBase) (p : Part) : (p.onTimeBase f).streams = p.streams := rfl
@[simp] theorem onTimeBase_engine (f : TimeBase → TimeBase) (p : Part) : (p.onTimeBase f).engine = p.engine := rfl
@[simp] theorem onTimeBase_sorter (f : TimeBase → TimeBase) (p : Part) : (p.onTimeBase f).sorter = p.sorter := rfl
@[simp] theorem onTimeBase_lanes (f : TimeBase → TimeBase) (p : Part) : (p.onTimeBase f).lanes = p.lanes := rfl
@[simp] theorem onTimeBase_store (f : TimeBase → TimeBase) (p : Part) : (p.onTimeBase f).store = p.store := rfl
@[simp] theorem onTimeBase_egress (f : TimeBase → TimeBase) (p : Part) : (p.onTimeBase f).egress = p.egress := rfl
@[simp] theorem onTimeBase_control (f : TimeBase → TimeBase) (p : Part) : (p.onTimeBase f).control = p.control := rfl
@[simp] theorem onTimeBase_attention (f : TimeBase → TimeBase) (p : Part) : (p.onTimeBase f).attention = p.attention := rfl

@[simp] theorem onStreams_clock (f : StreamTable → StreamTable) (p : Part) : (p.onStreams f).clock = p.clock := rfl
@[simp] theorem onStreams_idleSpan (f : StreamTable → StreamTable) (p : Part) : (p.onStreams f).idleSpan = p.idleSpan := rfl
@[simp] theorem onStreams_freeUses (f : StreamTable → StreamTable) (p : Part) : (p.onStreams f).freeUses = p.freeUses := rfl
@[simp] theorem onStreams_pins (f : StreamTable → StreamTable) (p : Part) : (p.onStreams f).pins = p.pins := rfl
@[simp] theorem onStreams_straps (f : StreamTable → StreamTable) (p : Part) : (p.onStreams f).straps = p.straps := rfl
@[simp] theorem onStreams_lastReset (f : StreamTable → StreamTable) (p : Part) : (p.onStreams f).lastReset = p.lastReset := rfl
@[simp] theorem onStreams_filing (f : StreamTable → StreamTable) (p : Part) : (p.onStreams f).filing = p.filing := rfl
@[simp] theorem onStreams_portA (f : StreamTable → StreamTable) (p : Part) : (p.onStreams f).portA = p.portA := rfl
@[simp] theorem onStreams_portB (f : StreamTable → StreamTable) (p : Part) : (p.onStreams f).portB = p.portB := rfl
@[simp] theorem onStreams_timeBase (f : StreamTable → StreamTable) (p : Part) : (p.onStreams f).timeBase = p.timeBase := rfl
@[simp] theorem onStreams_streams (f : StreamTable → StreamTable) (p : Part) : (p.onStreams f).streams = f p.streams := rfl
@[simp] theorem onStreams_engine (f : StreamTable → StreamTable) (p : Part) : (p.onStreams f).engine = p.engine := rfl
@[simp] theorem onStreams_sorter (f : StreamTable → StreamTable) (p : Part) : (p.onStreams f).sorter = p.sorter := rfl
@[simp] theorem onStreams_lanes (f : StreamTable → StreamTable) (p : Part) : (p.onStreams f).lanes = p.lanes := rfl
@[simp] theorem onStreams_store (f : StreamTable → StreamTable) (p : Part) : (p.onStreams f).store = p.store := rfl
@[simp] theorem onStreams_egress (f : StreamTable → StreamTable) (p : Part) : (p.onStreams f).egress = p.egress := rfl
@[simp] theorem onStreams_control (f : StreamTable → StreamTable) (p : Part) : (p.onStreams f).control = p.control := rfl
@[simp] theorem onStreams_attention (f : StreamTable → StreamTable) (p : Part) : (p.onStreams f).attention = p.attention := rfl

@[simp] theorem onEngine_clock (f : Engine → Engine) (p : Part) : (p.onEngine f).clock = p.clock := rfl
@[simp] theorem onEngine_idleSpan (f : Engine → Engine) (p : Part) : (p.onEngine f).idleSpan = p.idleSpan := rfl
@[simp] theorem onEngine_freeUses (f : Engine → Engine) (p : Part) : (p.onEngine f).freeUses = p.freeUses := rfl
@[simp] theorem onEngine_pins (f : Engine → Engine) (p : Part) : (p.onEngine f).pins = p.pins := rfl
@[simp] theorem onEngine_straps (f : Engine → Engine) (p : Part) : (p.onEngine f).straps = p.straps := rfl
@[simp] theorem onEngine_lastReset (f : Engine → Engine) (p : Part) : (p.onEngine f).lastReset = p.lastReset := rfl
@[simp] theorem onEngine_filing (f : Engine → Engine) (p : Part) : (p.onEngine f).filing = p.filing := rfl
@[simp] theorem onEngine_portA (f : Engine → Engine) (p : Part) : (p.onEngine f).portA = p.portA := rfl
@[simp] theorem onEngine_portB (f : Engine → Engine) (p : Part) : (p.onEngine f).portB = p.portB := rfl
@[simp] theorem onEngine_timeBase (f : Engine → Engine) (p : Part) : (p.onEngine f).timeBase = p.timeBase := rfl
@[simp] theorem onEngine_streams (f : Engine → Engine) (p : Part) : (p.onEngine f).streams = p.streams := rfl
@[simp] theorem onEngine_engine (f : Engine → Engine) (p : Part) : (p.onEngine f).engine = f p.engine := rfl
@[simp] theorem onEngine_sorter (f : Engine → Engine) (p : Part) : (p.onEngine f).sorter = p.sorter := rfl
@[simp] theorem onEngine_lanes (f : Engine → Engine) (p : Part) : (p.onEngine f).lanes = p.lanes := rfl
@[simp] theorem onEngine_store (f : Engine → Engine) (p : Part) : (p.onEngine f).store = p.store := rfl
@[simp] theorem onEngine_egress (f : Engine → Engine) (p : Part) : (p.onEngine f).egress = p.egress := rfl
@[simp] theorem onEngine_control (f : Engine → Engine) (p : Part) : (p.onEngine f).control = p.control := rfl
@[simp] theorem onEngine_attention (f : Engine → Engine) (p : Part) : (p.onEngine f).attention = p.attention := rfl

@[simp] theorem onSorter_clock (f : Sorter → Sorter) (p : Part) : (p.onSorter f).clock = p.clock := rfl
@[simp] theorem onSorter_idleSpan (f : Sorter → Sorter) (p : Part) : (p.onSorter f).idleSpan = p.idleSpan := rfl
@[simp] theorem onSorter_freeUses (f : Sorter → Sorter) (p : Part) : (p.onSorter f).freeUses = p.freeUses := rfl
@[simp] theorem onSorter_pins (f : Sorter → Sorter) (p : Part) : (p.onSorter f).pins = p.pins := rfl
@[simp] theorem onSorter_straps (f : Sorter → Sorter) (p : Part) : (p.onSorter f).straps = p.straps := rfl
@[simp] theorem onSorter_lastReset (f : Sorter → Sorter) (p : Part) : (p.onSorter f).lastReset = p.lastReset := rfl
@[simp] theorem onSorter_filing (f : Sorter → Sorter) (p : Part) : (p.onSorter f).filing = p.filing := rfl
@[simp] theorem onSorter_portA (f : Sorter → Sorter) (p : Part) : (p.onSorter f).portA = p.portA := rfl
@[simp] theorem onSorter_portB (f : Sorter → Sorter) (p : Part) : (p.onSorter f).portB = p.portB := rfl
@[simp] theorem onSorter_timeBase (f : Sorter → Sorter) (p : Part) : (p.onSorter f).timeBase = p.timeBase := rfl
@[simp] theorem onSorter_streams (f : Sorter → Sorter) (p : Part) : (p.onSorter f).streams = p.streams := rfl
@[simp] theorem onSorter_engine (f : Sorter → Sorter) (p : Part) : (p.onSorter f).engine = p.engine := rfl
@[simp] theorem onSorter_sorter (f : Sorter → Sorter) (p : Part) : (p.onSorter f).sorter = f p.sorter := rfl
@[simp] theorem onSorter_lanes (f : Sorter → Sorter) (p : Part) : (p.onSorter f).lanes = p.lanes := rfl
@[simp] theorem onSorter_store (f : Sorter → Sorter) (p : Part) : (p.onSorter f).store = p.store := rfl
@[simp] theorem onSorter_egress (f : Sorter → Sorter) (p : Part) : (p.onSorter f).egress = p.egress := rfl
@[simp] theorem onSorter_control (f : Sorter → Sorter) (p : Part) : (p.onSorter f).control = p.control := rfl
@[simp] theorem onSorter_attention (f : Sorter → Sorter) (p : Part) : (p.onSorter f).attention = p.attention := rfl

@[simp] theorem onStore_clock (f : Store → Store) (p : Part) : (p.onStore f).clock = p.clock := rfl
@[simp] theorem onStore_idleSpan (f : Store → Store) (p : Part) : (p.onStore f).idleSpan = p.idleSpan := rfl
@[simp] theorem onStore_freeUses (f : Store → Store) (p : Part) : (p.onStore f).freeUses = p.freeUses := rfl
@[simp] theorem onStore_pins (f : Store → Store) (p : Part) : (p.onStore f).pins = p.pins := rfl
@[simp] theorem onStore_straps (f : Store → Store) (p : Part) : (p.onStore f).straps = p.straps := rfl
@[simp] theorem onStore_lastReset (f : Store → Store) (p : Part) : (p.onStore f).lastReset = p.lastReset := rfl
@[simp] theorem onStore_filing (f : Store → Store) (p : Part) : (p.onStore f).filing = p.filing := rfl
@[simp] theorem onStore_portA (f : Store → Store) (p : Part) : (p.onStore f).portA = p.portA := rfl
@[simp] theorem onStore_portB (f : Store → Store) (p : Part) : (p.onStore f).portB = p.portB := rfl
@[simp] theorem onStore_timeBase (f : Store → Store) (p : Part) : (p.onStore f).timeBase = p.timeBase := rfl
@[simp] theorem onStore_streams (f : Store → Store) (p : Part) : (p.onStore f).streams = p.streams := rfl
@[simp] theorem onStore_engine (f : Store → Store) (p : Part) : (p.onStore f).engine = p.engine := rfl
@[simp] theorem onStore_sorter (f : Store → Store) (p : Part) : (p.onStore f).sorter = p.sorter := rfl
@[simp] theorem onStore_lanes (f : Store → Store) (p : Part) : (p.onStore f).lanes = p.lanes := rfl
@[simp] theorem onStore_store (f : Store → Store) (p : Part) : (p.onStore f).store = f p.store := rfl
@[simp] theorem onStore_egress (f : Store → Store) (p : Part) : (p.onStore f).egress = p.egress := rfl
@[simp] theorem onStore_control (f : Store → Store) (p : Part) : (p.onStore f).control = p.control := rfl
@[simp] theorem onStore_attention (f : Store → Store) (p : Part) : (p.onStore f).attention = p.attention := rfl

@[simp] theorem onEgress_clock (f : Egress → Egress) (p : Part) : (p.onEgress f).clock = p.clock := rfl
@[simp] theorem onEgress_idleSpan (f : Egress → Egress) (p : Part) : (p.onEgress f).idleSpan = p.idleSpan := rfl
@[simp] theorem onEgress_freeUses (f : Egress → Egress) (p : Part) : (p.onEgress f).freeUses = p.freeUses := rfl
@[simp] theorem onEgress_pins (f : Egress → Egress) (p : Part) : (p.onEgress f).pins = p.pins := rfl
@[simp] theorem onEgress_straps (f : Egress → Egress) (p : Part) : (p.onEgress f).straps = p.straps := rfl
@[simp] theorem onEgress_lastReset (f : Egress → Egress) (p : Part) : (p.onEgress f).lastReset = p.lastReset := rfl
@[simp] theorem onEgress_filing (f : Egress → Egress) (p : Part) : (p.onEgress f).filing = p.filing := rfl
@[simp] theorem onEgress_portA (f : Egress → Egress) (p : Part) : (p.onEgress f).portA = p.portA := rfl
@[simp] theorem onEgress_portB (f : Egress → Egress) (p : Part) : (p.onEgress f).portB = p.portB := rfl
@[simp] theorem onEgress_timeBase (f : Egress → Egress) (p : Part) : (p.onEgress f).timeBase = p.timeBase := rfl
@[simp] theorem onEgress_streams (f : Egress → Egress) (p : Part) : (p.onEgress f).streams = p.streams := rfl
@[simp] theorem onEgress_engine (f : Egress → Egress) (p : Part) : (p.onEgress f).engine = p.engine := rfl
@[simp] theorem onEgress_sorter (f : Egress → Egress) (p : Part) : (p.onEgress f).sorter = p.sorter := rfl
@[simp] theorem onEgress_lanes (f : Egress → Egress) (p : Part) : (p.onEgress f).lanes = p.lanes := rfl
@[simp] theorem onEgress_store (f : Egress → Egress) (p : Part) : (p.onEgress f).store = p.store := rfl
@[simp] theorem onEgress_egress (f : Egress → Egress) (p : Part) : (p.onEgress f).egress = f p.egress := rfl
@[simp] theorem onEgress_control (f : Egress → Egress) (p : Part) : (p.onEgress f).control = p.control := rfl
@[simp] theorem onEgress_attention (f : Egress → Egress) (p : Part) : (p.onEgress f).attention = p.attention := rfl

@[simp] theorem onControl_clock (f : Control → Control) (p : Part) : (p.onControl f).clock = p.clock := rfl
@[simp] theorem onControl_idleSpan (f : Control → Control) (p : Part) : (p.onControl f).idleSpan = p.idleSpan := rfl
@[simp] theorem onControl_freeUses (f : Control → Control) (p : Part) : (p.onControl f).freeUses = p.freeUses := rfl
@[simp] theorem onControl_pins (f : Control → Control) (p : Part) : (p.onControl f).pins = p.pins := rfl
@[simp] theorem onControl_straps (f : Control → Control) (p : Part) : (p.onControl f).straps = p.straps := rfl
@[simp] theorem onControl_lastReset (f : Control → Control) (p : Part) : (p.onControl f).lastReset = p.lastReset := rfl
@[simp] theorem onControl_filing (f : Control → Control) (p : Part) : (p.onControl f).filing = p.filing := rfl
@[simp] theorem onControl_portA (f : Control → Control) (p : Part) : (p.onControl f).portA = p.portA := rfl
@[simp] theorem onControl_portB (f : Control → Control) (p : Part) : (p.onControl f).portB = p.portB := rfl
@[simp] theorem onControl_timeBase (f : Control → Control) (p : Part) : (p.onControl f).timeBase = p.timeBase := rfl
@[simp] theorem onControl_streams (f : Control → Control) (p : Part) : (p.onControl f).streams = p.streams := rfl
@[simp] theorem onControl_engine (f : Control → Control) (p : Part) : (p.onControl f).engine = p.engine := rfl
@[simp] theorem onControl_sorter (f : Control → Control) (p : Part) : (p.onControl f).sorter = p.sorter := rfl
@[simp] theorem onControl_lanes (f : Control → Control) (p : Part) : (p.onControl f).lanes = p.lanes := rfl
@[simp] theorem onControl_store (f : Control → Control) (p : Part) : (p.onControl f).store = p.store := rfl
@[simp] theorem onControl_egress (f : Control → Control) (p : Part) : (p.onControl f).egress = p.egress := rfl
@[simp] theorem onControl_control (f : Control → Control) (p : Part) : (p.onControl f).control = f p.control := rfl
@[simp] theorem onControl_attention (f : Control → Control) (p : Part) : (p.onControl f).attention = p.attention := rfl

@[simp] theorem onAttention_clock (f : Attention → Attention) (p : Part) : (p.onAttention f).clock = p.clock := rfl
@[simp] theorem onAttention_idleSpan (f : Attention → Attention) (p : Part) : (p.onAttention f).idleSpan = p.idleSpan := rfl
@[simp] theorem onAttention_freeUses (f : Attention → Attention) (p : Part) : (p.onAttention f).freeUses = p.freeUses := rfl
@[simp] theorem onAttention_pins (f : Attention → Attention) (p : Part) : (p.onAttention f).pins = p.pins := rfl
@[simp] theorem onAttention_straps (f : Attention → Attention) (p : Part) : (p.onAttention f).straps = p.straps := rfl
@[simp] theorem onAttention_lastReset (f : Attention → Attention) (p : Part) : (p.onAttention f).lastReset = p.lastReset := rfl
@[simp] theorem onAttention_filing (f : Attention → Attention) (p : Part) : (p.onAttention f).filing = p.filing := rfl
@[simp] theorem onAttention_portA (f : Attention → Attention) (p : Part) : (p.onAttention f).portA = p.portA := rfl
@[simp] theorem onAttention_portB (f : Attention → Attention) (p : Part) : (p.onAttention f).portB = p.portB := rfl
@[simp] theorem onAttention_timeBase (f : Attention → Attention) (p : Part) : (p.onAttention f).timeBase = p.timeBase := rfl
@[simp] theorem onAttention_streams (f : Attention → Attention) (p : Part) : (p.onAttention f).streams = p.streams := rfl
@[simp] theorem onAttention_engine (f : Attention → Attention) (p : Part) : (p.onAttention f).engine = p.engine := rfl
@[simp] theorem onAttention_sorter (f : Attention → Attention) (p : Part) : (p.onAttention f).sorter = p.sorter := rfl
@[simp] theorem onAttention_lanes (f : Attention → Attention) (p : Part) : (p.onAttention f).lanes = p.lanes := rfl
@[simp] theorem onAttention_store (f : Attention → Attention) (p : Part) : (p.onAttention f).store = p.store := rfl
@[simp] theorem onAttention_egress (f : Attention → Attention) (p : Part) : (p.onAttention f).egress = p.egress := rfl
@[simp] theorem onAttention_control (f : Attention → Attention) (p : Part) : (p.onAttention f).control = p.control := rfl
@[simp] theorem onAttention_attention (f : Attention → Attention) (p : Part) : (p.onAttention f).attention = f p.attention := rfl

@[simp] theorem onLane_clock (l : LaneId) (f : Lane → Lane) (p : Part) : (p.onLane l f).clock = p.clock := rfl
@[simp] theorem onLane_idleSpan (l : LaneId) (f : Lane → Lane) (p : Part) : (p.onLane l f).idleSpan = p.idleSpan := rfl
@[simp] theorem onLane_freeUses (l : LaneId) (f : Lane → Lane) (p : Part) : (p.onLane l f).freeUses = p.freeUses := rfl
@[simp] theorem onLane_pins (l : LaneId) (f : Lane → Lane) (p : Part) : (p.onLane l f).pins = p.pins := rfl
@[simp] theorem onLane_straps (l : LaneId) (f : Lane → Lane) (p : Part) : (p.onLane l f).straps = p.straps := rfl
@[simp] theorem onLane_lastReset (l : LaneId) (f : Lane → Lane) (p : Part) : (p.onLane l f).lastReset = p.lastReset := rfl
@[simp] theorem onLane_filing (l : LaneId) (f : Lane → Lane) (p : Part) : (p.onLane l f).filing = p.filing := rfl
@[simp] theorem onLane_portA (l : LaneId) (f : Lane → Lane) (p : Part) : (p.onLane l f).portA = p.portA := rfl
@[simp] theorem onLane_portB (l : LaneId) (f : Lane → Lane) (p : Part) : (p.onLane l f).portB = p.portB := rfl
@[simp] theorem onLane_timeBase (l : LaneId) (f : Lane → Lane) (p : Part) : (p.onLane l f).timeBase = p.timeBase := rfl
@[simp] theorem onLane_streams (l : LaneId) (f : Lane → Lane) (p : Part) : (p.onLane l f).streams = p.streams := rfl
@[simp] theorem onLane_engine (l : LaneId) (f : Lane → Lane) (p : Part) : (p.onLane l f).engine = p.engine := rfl
@[simp] theorem onLane_sorter (l : LaneId) (f : Lane → Lane) (p : Part) : (p.onLane l f).sorter = p.sorter := rfl
theorem onLane_lanes (l : LaneId) (f : Lane → Lane) (p : Part) : (p.onLane l f).lanes = p.lanes.set l (f (p.lanes.get l)) := rfl
@[simp] theorem onLane_store (l : LaneId) (f : Lane → Lane) (p : Part) : (p.onLane l f).store = p.store := rfl
@[simp] theorem onLane_egress (l : LaneId) (f : Lane → Lane) (p : Part) : (p.onLane l f).egress = p.egress := rfl
@[simp] theorem onLane_control (l : LaneId) (f : Lane → Lane) (p : Part) : (p.onLane l f).control = p.control := rfl
@[simp] theorem onLane_attention (l : LaneId) (f : Lane → Lane) (p : Part) : (p.onLane l f).attention = p.attention := rfl

@[simp] theorem onPort_clock (r : RefPort) (f : Port → Port) (p : Part) : (p.onPort r f).clock = p.clock := by cases r <;> rfl
@[simp] theorem onPort_idleSpan (r : RefPort) (f : Port → Port) (p : Part) : (p.onPort r f).idleSpan = p.idleSpan := by cases r <;> rfl
@[simp] theorem onPort_freeUses (r : RefPort) (f : Port → Port) (p : Part) : (p.onPort r f).freeUses = p.freeUses := by cases r <;> rfl
@[simp] theorem onPort_pins (r : RefPort) (f : Port → Port) (p : Part) : (p.onPort r f).pins = p.pins := by cases r <;> rfl
@[simp] theorem onPort_straps (r : RefPort) (f : Port → Port) (p : Part) : (p.onPort r f).straps = p.straps := by cases r <;> rfl
@[simp] theorem onPort_lastReset (r : RefPort) (f : Port → Port) (p : Part) : (p.onPort r f).lastReset = p.lastReset := by cases r <;> rfl
@[simp] theorem onPort_filing (r : RefPort) (f : Port → Port) (p : Part) : (p.onPort r f).filing = p.filing := by cases r <;> rfl
@[simp] theorem onPort_timeBase (r : RefPort) (f : Port → Port) (p : Part) : (p.onPort r f).timeBase = p.timeBase := by cases r <;> rfl
@[simp] theorem onPort_streams (r : RefPort) (f : Port → Port) (p : Part) : (p.onPort r f).streams = p.streams := by cases r <;> rfl
@[simp] theorem onPort_engine (r : RefPort) (f : Port → Port) (p : Part) : (p.onPort r f).engine = p.engine := by cases r <;> rfl
@[simp] theorem onPort_sorter (r : RefPort) (f : Port → Port) (p : Part) : (p.onPort r f).sorter = p.sorter := by cases r <;> rfl
@[simp] theorem onPort_lanes (r : RefPort) (f : Port → Port) (p : Part) : (p.onPort r f).lanes = p.lanes := by cases r <;> rfl
@[simp] theorem onPort_store (r : RefPort) (f : Port → Port) (p : Part) : (p.onPort r f).store = p.store := by cases r <;> rfl
@[simp] theorem onPort_egress (r : RefPort) (f : Port → Port) (p : Part) : (p.onPort r f).egress = p.egress := by cases r <;> rfl
@[simp] theorem onPort_control (r : RefPort) (f : Port → Port) (p : Part) : (p.onPort r f).control = p.control := by cases r <;> rfl
@[simp] theorem onPort_attention (r : RefPort) (f : Port → Port) (p : Part) : (p.onPort r f).attention = p.attention := by cases r <;> rfl

@[simp] theorem useFree_clock (p : Part) : p.useFree.clock = p.clock := rfl
@[simp] theorem useFree_idleSpan (p : Part) : p.useFree.idleSpan = p.idleSpan := rfl
@[simp] theorem useFree_freeUses (p : Part) : p.useFree.freeUses = p.freeUses + 1 := rfl
@[simp] theorem useFree_pins (p : Part) : p.useFree.pins = p.pins := rfl
@[simp] theorem useFree_straps (p : Part) : p.useFree.straps = p.straps := rfl
@[simp] theorem useFree_lastReset (p : Part) : p.useFree.lastReset = p.lastReset := rfl
@[simp] theorem useFree_filing (p : Part) : p.useFree.filing = p.filing := rfl
@[simp] theorem useFree_portA (p : Part) : p.useFree.portA = p.portA := rfl
@[simp] theorem useFree_portB (p : Part) : p.useFree.portB = p.portB := rfl
@[simp] theorem useFree_timeBase (p : Part) : p.useFree.timeBase = p.timeBase := rfl
@[simp] theorem useFree_streams (p : Part) : p.useFree.streams = p.streams := rfl
@[simp] theorem useFree_engine (p : Part) : p.useFree.engine = p.engine := rfl
@[simp] theorem useFree_sorter (p : Part) : p.useFree.sorter = p.sorter := rfl
@[simp] theorem useFree_lanes (p : Part) : p.useFree.lanes = p.lanes := rfl
@[simp] theorem useFree_store (p : Part) : p.useFree.store = p.store := rfl
@[simp] theorem useFree_egress (p : Part) : p.useFree.egress = p.egress := rfl
@[simp] theorem useFree_control (p : Part) : p.useFree.control = p.control := rfl
@[simp] theorem useFree_attention (p : Part) : p.useFree.attention = p.attention := rfl

@[simp] theorem Four.get_set_same {α : Type} (x : Four α) (i : Fin 4) (v : α) : (x.set i v).get i = v := by
  match i with
  | 0 => rfl
  | 1 => rfl
  | 2 => rfl
  | 3 => rfl

theorem Four.get_set_other {α : Type} (x : Four α) {i j : Fin 4} (v : α) (h : i ≠ j) : (x.set i v).get j = x.get j := by
  match i, j with
  | 0, 0 | 1, 1 | 2, 2 | 3, 3 => exact absurd rfl h
  | 0, 1 | 0, 2 | 0, 3 | 1, 0 | 1, 2 | 1, 3 | 2, 0 | 2, 1 | 2, 3 | 3, 0 | 3, 1 | 3, 2 => rfl

@[simp] theorem Four.get_map {α : Type} (f : α → α) (x : Four α) (i : Fin 4) : (x.map f).get i = f (x.get i) := by
  match i with
  | 0 => rfl
  | 1 => rfl
  | 2 => rfl
  | 3 => rfl

@[simp] theorem onLane_lane_same (l : LaneId) (f : Lane → Lane) (p : Part) : (p.onLane l f).lane l = f (p.lane l) := by
  simp [Part.lane, Part.onLane]

theorem onLane_lane_other {l k : LaneId} (f : Lane → Lane) (p : Part) (h : l ≠ k) : (p.onLane l f).lane k = p.lane k :=
  Four.get_set_other p.lanes _ h

@[simp] theorem onPort_port_same (r : RefPort) (f : Port → Port) (p : Part) : (p.onPort r f).port r = f (p.port r) := by
  cases r <;> rfl

theorem onPort_port_other {r k : RefPort} (f : Port → Port) (p : Part) (h : r ≠ k) : (p.onPort r f).port k = p.port k := by
  cases r <;> cases k <;> first | rfl | exact absurd rfl h

/-- What a command that runs answers. -/
@[simp] theorem run_eq (f : Part → Part) (s : State) : State.run f s = .next { s with part := f s.part } := rfl

theorem live_of_low (f : Part → Part) (p : Part) (h : p.pins.resetLow = true) : Part.live f p = p := by
  simp [Part.live, h]

theorem live_of_high (f : Part → Part) (p : Part) (h : p.pins.resetLow = false) : Part.live f p = f p := by
  simp [Part.live, h]

end Sys2Proof.Machine
end

