-- ==== Sys2Proof/Laws/AttentionFrames.lean ====
section
/-! SUPPORT. What raising, clearing, notices, messages and replies leave unchanged. -/

namespace Sys2Proof.Machine

@[simp] theorem startMessage_clock (p : Part) : (startMessage p).clock = p.clock := by
  unfold startMessage
  (repeat' split) <;> simp
@[simp] theorem startMessage_idleSpan (p : Part) : (startMessage p).idleSpan = p.idleSpan := by
  unfold startMessage
  (repeat' split) <;> simp
@[simp] theorem startMessage_freeUses (p : Part) : (startMessage p).freeUses = p.freeUses := by
  unfold startMessage
  (repeat' split) <;> simp
@[simp] theorem startMessage_pins (p : Part) : (startMessage p).pins = p.pins := by
  unfold startMessage
  (repeat' split) <;> simp
@[simp] theorem startMessage_straps (p : Part) : (startMessage p).straps = p.straps := by
  unfold startMessage
  (repeat' split) <;> simp
@[simp] theorem startMessage_lastReset (p : Part) : (startMessage p).lastReset = p.lastReset := by
  unfold startMessage
  (repeat' split) <;> simp
@[simp] theorem startMessage_filing (p : Part) : (startMessage p).filing = p.filing := by
  unfold startMessage
  (repeat' split) <;> simp
@[simp] theorem startMessage_portA (p : Part) : (startMessage p).portA = p.portA := by
  unfold startMessage
  (repeat' split) <;> simp
@[simp] theorem startMessage_portB (p : Part) : (startMessage p).portB = p.portB := by
  unfold startMessage
  (repeat' split) <;> simp
@[simp] theorem startMessage_timeBase (p : Part) : (startMessage p).timeBase = p.timeBase := by
  unfold startMessage
  (repeat' split) <;> simp
@[simp] theorem startMessage_streams (p : Part) : (startMessage p).streams = p.streams := by
  unfold startMessage
  (repeat' split) <;> simp
@[simp] theorem startMessage_engine (p : Part) : (startMessage p).engine = p.engine := by
  unfold startMessage
  (repeat' split) <;> simp
@[simp] theorem startMessage_sorter (p : Part) : (startMessage p).sorter = p.sorter := by
  unfold startMessage
  (repeat' split) <;> simp
@[simp] theorem startMessage_lanes (p : Part) : (startMessage p).lanes = p.lanes := by
  unfold startMessage
  (repeat' split) <;> simp
@[simp] theorem startMessage_store (p : Part) : (startMessage p).store = p.store := by
  unfold startMessage
  (repeat' split) <;> simp
@[simp] theorem startMessage_egress (p : Part) : (startMessage p).egress = p.egress := by
  unfold startMessage
  (repeat' split) <;> simp
@[simp] theorem startMessage_attention (p : Part) : (startMessage p).attention = p.attention := by
  unfold startMessage
  (repeat' split) <;> simp

@[simp] theorem evalAttn_clock (p : Part) : (evalAttn p).clock = p.clock := by simp [evalAttn]
@[simp] theorem evalAttn_idleSpan (p : Part) : (evalAttn p).idleSpan = p.idleSpan := by simp [evalAttn]
@[simp] theorem evalAttn_freeUses (p : Part) : (evalAttn p).freeUses = p.freeUses := by simp [evalAttn]
@[simp] theorem evalAttn_pins (p : Part) : (evalAttn p).pins = p.pins := by simp [evalAttn]
@[simp] theorem evalAttn_straps (p : Part) : (evalAttn p).straps = p.straps := by simp [evalAttn]
@[simp] theorem evalAttn_lastReset (p : Part) : (evalAttn p).lastReset = p.lastReset := by simp [evalAttn]
@[simp] theorem evalAttn_filing (p : Part) : (evalAttn p).filing = p.filing := by simp [evalAttn]
@[simp] theorem evalAttn_portA (p : Part) : (evalAttn p).portA = p.portA := by simp [evalAttn]
@[simp] theorem evalAttn_portB (p : Part) : (evalAttn p).portB = p.portB := by simp [evalAttn]
@[simp] theorem evalAttn_timeBase (p : Part) : (evalAttn p).timeBase = p.timeBase := by simp [evalAttn]
@[simp] theorem evalAttn_streams (p : Part) : (evalAttn p).streams = p.streams := by simp [evalAttn]
@[simp] theorem evalAttn_engine (p : Part) : (evalAttn p).engine = p.engine := by simp [evalAttn]
@[simp] theorem evalAttn_sorter (p : Part) : (evalAttn p).sorter = p.sorter := by simp [evalAttn]
@[simp] theorem evalAttn_lanes (p : Part) : (evalAttn p).lanes = p.lanes := by simp [evalAttn]
@[simp] theorem evalAttn_store (p : Part) : (evalAttn p).store = p.store := by simp [evalAttn]
@[simp] theorem evalAttn_egress (p : Part) : (evalAttn p).egress = p.egress := by simp [evalAttn]
@[simp] theorem evalAttn_control (p : Part) : (evalAttn p).control = p.control := by simp [evalAttn]

@[simp] theorem handNotice_clock (p : Part) : (handNotice p).clock = p.clock := by simp [handNotice]
@[simp] theorem handNotice_idleSpan (p : Part) : (handNotice p).idleSpan = p.idleSpan := by simp [handNotice]
@[simp] theorem handNotice_freeUses (p : Part) : (handNotice p).freeUses = p.freeUses := by simp [handNotice]
@[simp] theorem handNotice_pins (p : Part) : (handNotice p).pins = p.pins := by simp [handNotice]
@[simp] theorem handNotice_straps (p : Part) : (handNotice p).straps = p.straps := by simp [handNotice]
@[simp] theorem handNotice_lastReset (p : Part) : (handNotice p).lastReset = p.lastReset := by simp [handNotice]
@[simp] theorem handNotice_filing (p : Part) : (handNotice p).filing = p.filing := by simp [handNotice]
@[simp] theorem handNotice_portA (p : Part) : (handNotice p).portA = p.portA := by simp [handNotice]
@[simp] theorem handNotice_portB (p : Part) : (handNotice p).portB = p.portB := by simp [handNotice]
@[simp] theorem handNotice_timeBase (p : Part) : (handNotice p).timeBase = p.timeBase := by simp [handNotice]
@[simp] theorem handNotice_streams (p : Part) : (handNotice p).streams = p.streams := by simp [handNotice]
@[simp] theorem handNotice_engine (p : Part) : (handNotice p).engine = p.engine := by simp [handNotice]
@[simp] theorem handNotice_sorter (p : Part) : (handNotice p).sorter = p.sorter := by simp [handNotice]
@[simp] theorem handNotice_lanes (p : Part) : (handNotice p).lanes = p.lanes := by simp [handNotice]
@[simp] theorem handNotice_store (p : Part) : (handNotice p).store = p.store := by simp [handNotice]
@[simp] theorem handNotice_egress (p : Part) : (handNotice p).egress = p.egress := by simp [handNotice]

@[simp] theorem makePending_clock (c : Cause) (p : Part) : (makePending c p).clock = p.clock := by simp [makePending]
@[simp] theorem makePending_idleSpan (c : Cause) (p : Part) : (makePending c p).idleSpan = p.idleSpan := by simp [makePending]
@[simp] theorem makePending_freeUses (c : Cause) (p : Part) : (makePending c p).freeUses = p.freeUses := by simp [makePending]
@[simp] theorem makePending_pins (c : Cause) (p : Part) : (makePending c p).pins = p.pins := by simp [makePending]
@[simp] theorem makePending_straps (c : Cause) (p : Part) : (makePending c p).straps = p.straps := by simp [makePending]
@[simp] theorem makePending_lastReset (c : Cause) (p : Part) : (makePending c p).lastReset = p.lastReset := by simp [makePending]
@[simp] theorem makePending_filing (c : Cause) (p : Part) : (makePending c p).filing = p.filing := by simp [makePending]
@[simp] theorem makePending_portA (c : Cause) (p : Part) : (makePending c p).portA = p.portA := by simp [makePending]
@[simp] theorem makePending_portB (c : Cause) (p : Part) : (makePending c p).portB = p.portB := by simp [makePending]
@[simp] theorem makePending_timeBase (c : Cause) (p : Part) : (makePending c p).timeBase = p.timeBase := by simp [makePending]
@[simp] theorem makePending_streams (c : Cause) (p : Part) : (makePending c p).streams = p.streams := by simp [makePending]
@[simp] theorem makePending_engine (c : Cause) (p : Part) : (makePending c p).engine = p.engine := by simp [makePending]
@[simp] theorem makePending_sorter (c : Cause) (p : Part) : (makePending c p).sorter = p.sorter := by simp [makePending]
@[simp] theorem makePending_lanes (c : Cause) (p : Part) : (makePending c p).lanes = p.lanes := by simp [makePending]
@[simp] theorem makePending_store (c : Cause) (p : Part) : (makePending c p).store = p.store := by simp [makePending]
@[simp] theorem makePending_egress (c : Cause) (p : Part) : (makePending c p).egress = p.egress := by simp [makePending]
@[simp] theorem makePending_control (c : Cause) (p : Part) : (makePending c p).control = p.control := by simp [makePending]

@[simp] theorem raiseQuiet_clock (c : Cause) (p : Part) : (raiseQuiet c p).clock = p.clock := by
  unfold raiseQuiet
  (repeat' split) <;> simp
@[simp] theorem raiseQuiet_idleSpan (c : Cause) (p : Part) : (raiseQuiet c p).idleSpan = p.idleSpan := by
  unfold raiseQuiet
  (repeat' split) <;> simp
@[simp] theorem raiseQuiet_freeUses (c : Cause) (p : Part) : (raiseQuiet c p).freeUses = p.freeUses := by
  unfold raiseQuiet
  (repeat' split) <;> simp
@[simp] theorem raiseQuiet_pins (c : Cause) (p : Part) : (raiseQuiet c p).pins = p.pins := by
  unfold raiseQuiet
  (repeat' split) <;> simp
@[simp] theorem raiseQuiet_straps (c : Cause) (p : Part) : (raiseQuiet c p).straps = p.straps := by
  unfold raiseQuiet
  (repeat' split) <;> simp
@[simp] theorem raiseQuiet_lastReset (c : Cause) (p : Part) : (raiseQuiet c p).lastReset = p.lastReset := by
  unfold raiseQuiet
  (repeat' split) <;> simp
@[simp] theorem raiseQuiet_filing (c : Cause) (p : Part) : (raiseQuiet c p).filing = p.filing := by
  unfold raiseQuiet
  (repeat' split) <;> simp
@[simp] theorem raiseQuiet_portA (c : Cause) (p : Part) : (raiseQuiet c p).portA = p.portA := by
  unfold raiseQuiet
  (repeat' split) <;> simp
@[simp] theorem raiseQuiet_portB (c : Cause) (p : Part) : (raiseQuiet c p).portB = p.portB := by
  unfold raiseQuiet
  (repeat' split) <;> simp
@[simp] theorem raiseQuiet_timeBase (c : Cause) (p : Part) : (raiseQuiet c p).timeBase = p.timeBase := by
  unfold raiseQuiet
  (repeat' split) <;> simp
@[simp] theorem raiseQuiet_streams (c : Cause) (p : Part) : (raiseQuiet c p).streams = p.streams := by
  unfold raiseQuiet
  (repeat' split) <;> simp
@[simp] theorem raiseQuiet_engine (c : Cause) (p : Part) : (raiseQuiet c p).engine = p.engine := by
  unfold raiseQuiet
  (repeat' split) <;> simp
@[simp] theorem raiseQuiet_sorter (c : Cause) (p : Part) : (raiseQuiet c p).sorter = p.sorter := by
  unfold raiseQuiet
  (repeat' split) <;> simp
@[simp] theorem raiseQuiet_lanes (c : Cause) (p : Part) : (raiseQuiet c p).lanes = p.lanes := by
  unfold raiseQuiet
  (repeat' split) <;> simp
@[simp] theorem raiseQuiet_store (c : Cause) (p : Part) : (raiseQuiet c p).store = p.store := by
  unfold raiseQuiet
  (repeat' split) <;> simp
@[simp] theorem raiseQuiet_egress (c : Cause) (p : Part) : (raiseQuiet c p).egress = p.egress := by
  unfold raiseQuiet
  (repeat' split) <;> simp
@[simp] theorem raiseQuiet_control (c : Cause) (p : Part) : (raiseQuiet c p).control = p.control := by
  unfold raiseQuiet
  (repeat' split) <;> simp

@[simp] theorem raise_clock (c : Cause) (p : Part) : (raise c p).clock = p.clock := by
  unfold raise
  (repeat' split) <;> simp
@[simp] theorem raise_idleSpan (c : Cause) (p : Part) : (raise c p).idleSpan = p.idleSpan := by
  unfold raise
  (repeat' split) <;> simp
@[simp] theorem raise_freeUses (c : Cause) (p : Part) : (raise c p).freeUses = p.freeUses := by
  unfold raise
  (repeat' split) <;> simp
@[simp] theorem raise_pins (c : Cause) (p : Part) : (raise c p).pins = p.pins := by
  unfold raise
  (repeat' split) <;> simp
@[simp] theorem raise_straps (c : Cause) (p : Part) : (raise c p).straps = p.straps := by
  unfold raise
  (repeat' split) <;> simp
@[simp] theorem raise_lastReset (c : Cause) (p : Part) : (raise c p).lastReset = p.lastReset := by
  unfold raise
  (repeat' split) <;> simp
@[simp] theorem raise_filing (c : Cause) (p : Part) : (raise c p).filing = p.filing := by
  unfold raise
  (repeat' split) <;> simp
@[simp] theorem raise_portA (c : Cause) (p : Part) : (raise c p).portA = p.portA := by
  unfold raise
  (repeat' split) <;> simp
@[simp] theorem raise_portB (c : Cause) (p : Part) : (raise c p).portB = p.portB := by
  unfold raise
  (repeat' split) <;> simp
@[simp] theorem raise_timeBase (c : Cause) (p : Part) : (raise c p).timeBase = p.timeBase := by
  unfold raise
  (repeat' split) <;> simp
@[simp] theorem raise_streams (c : Cause) (p : Part) : (raise c p).streams = p.streams := by
  unfold raise
  (repeat' split) <;> simp
@[simp] theorem raise_engine (c : Cause) (p : Part) : (raise c p).engine = p.engine := by
  unfold raise
  (repeat' split) <;> simp
@[simp] theorem raise_sorter (c : Cause) (p : Part) : (raise c p).sorter = p.sorter := by
  unfold raise
  (repeat' split) <;> simp
@[simp] theorem raise_lanes (c : Cause) (p : Part) : (raise c p).lanes = p.lanes := by
  unfold raise
  (repeat' split) <;> simp
@[simp] theorem raise_store (c : Cause) (p : Part) : (raise c p).store = p.store := by
  unfold raise
  (repeat' split) <;> simp
@[simp] theorem raise_egress (c : Cause) (p : Part) : (raise c p).egress = p.egress := by
  unfold raise
  (repeat' split) <;> simp

@[simp] theorem clearCause_clock (c : Cause) (p : Part) : (clearCause c p).clock = p.clock := by simp [clearCause]
@[simp] theorem clearCause_idleSpan (c : Cause) (p : Part) : (clearCause c p).idleSpan = p.idleSpan := by simp [clearCause]
@[simp] theorem clearCause_freeUses (c : Cause) (p : Part) : (clearCause c p).freeUses = p.freeUses := by simp [clearCause]
@[simp] theorem clearCause_pins (c : Cause) (p : Part) : (clearCause c p).pins = p.pins := by simp [clearCause]
@[simp] theorem clearCause_straps (c : Cause) (p : Part) : (clearCause c p).straps = p.straps := by simp [clearCause]
@[simp] theorem clearCause_lastReset (c : Cause) (p : Part) : (clearCause c p).lastReset = p.lastReset := by simp [clearCause]
@[simp] theorem clearCause_filing (c : Cause) (p : Part) : (clearCause c p).filing = p.filing := by simp [clearCause]
@[simp] theorem clearCause_portA (c : Cause) (p : Part) : (clearCause c p).portA = p.portA := by simp [clearCause]
@[simp] theorem clearCause_portB (c : Cause) (p : Part) : (clearCause c p).portB = p.portB := by simp [clearCause]
@[simp] theorem clearCause_timeBase (c : Cause) (p : Part) : (clearCause c p).timeBase = p.timeBase := by simp [clearCause]
@[simp] theorem clearCause_streams (c : Cause) (p : Part) : (clearCause c p).streams = p.streams := by simp [clearCause]
@[simp] theorem clearCause_engine (c : Cause) (p : Part) : (clearCause c p).engine = p.engine := by simp [clearCause]
@[simp] theorem clearCause_sorter (c : Cause) (p : Part) : (clearCause c p).sorter = p.sorter := by simp [clearCause]
@[simp] theorem clearCause_lanes (c : Cause) (p : Part) : (clearCause c p).lanes = p.lanes := by simp [clearCause]
@[simp] theorem clearCause_store (c : Cause) (p : Part) : (clearCause c p).store = p.store := by simp [clearCause]
@[simp] theorem clearCause_egress (c : Cause) (p : Part) : (clearCause c p).egress = p.egress := by simp [clearCause]
@[simp] theorem clearCause_control (c : Cause) (p : Part) : (clearCause c p).control = p.control := by simp [clearCause]

@[simp] theorem handIfDue_clock (p : Part) : (handIfDue p).clock = p.clock := by
  unfold handIfDue
  (repeat' split) <;> simp
@[simp] theorem handIfDue_idleSpan (p : Part) : (handIfDue p).idleSpan = p.idleSpan := by
  unfold handIfDue
  (repeat' split) <;> simp
@[simp] theorem handIfDue_freeUses (p : Part) : (handIfDue p).freeUses = p.freeUses := by
  unfold handIfDue
  (repeat' split) <;> simp
@[simp] theorem handIfDue_pins (p : Part) : (handIfDue p).pins = p.pins := by
  unfold handIfDue
  (repeat' split) <;> simp
@[simp] theorem handIfDue_straps (p : Part) : (handIfDue p).straps = p.straps := by
  unfold handIfDue
  (repeat' split) <;> simp
@[simp] theorem handIfDue_lastReset (p : Part) : (handIfDue p).lastReset = p.lastReset := by
  unfold handIfDue
  (repeat' split) <;> simp
@[simp] theorem handIfDue_filing (p : Part) : (handIfDue p).filing = p.filing := by
  unfold handIfDue
  (repeat' split) <;> simp
@[simp] theorem handIfDue_portA (p : Part) : (handIfDue p).portA = p.portA := by
  unfold handIfDue
  (repeat' split) <;> simp
@[simp] theorem handIfDue_portB (p : Part) : (handIfDue p).portB = p.portB := by
  unfold handIfDue
  (repeat' split) <;> simp
@[simp] theorem handIfDue_timeBase (p : Part) : (handIfDue p).timeBase = p.timeBase := by
  unfold handIfDue
  (repeat' split) <;> simp
@[simp] theorem handIfDue_streams (p : Part) : (handIfDue p).streams = p.streams := by
  unfold handIfDue
  (repeat' split) <;> simp
@[simp] theorem handIfDue_engine (p : Part) : (handIfDue p).engine = p.engine := by
  unfold handIfDue
  (repeat' split) <;> simp
@[simp] theorem handIfDue_sorter (p : Part) : (handIfDue p).sorter = p.sorter := by
  unfold handIfDue
  (repeat' split) <;> simp
@[simp] theorem handIfDue_lanes (p : Part) : (handIfDue p).lanes = p.lanes := by
  unfold handIfDue
  (repeat' split) <;> simp
@[simp] theorem handIfDue_store (p : Part) : (handIfDue p).store = p.store := by
  unfold handIfDue
  (repeat' split) <;> simp
@[simp] theorem handIfDue_egress (p : Part) : (handIfDue p).egress = p.egress := by
  unfold handIfDue
  (repeat' split) <;> simp

@[simp] theorem complete_clock (e : RequestEntry) (st : Status) (r : List Byte) (p : Part) : (complete e st r p).clock = p.clock := by
  unfold complete
  (repeat' split) <;> simp
@[simp] theorem complete_idleSpan (e : RequestEntry) (st : Status) (r : List Byte) (p : Part) : (complete e st r p).idleSpan = p.idleSpan := by
  unfold complete
  (repeat' split) <;> simp
@[simp] theorem complete_freeUses (e : RequestEntry) (st : Status) (r : List Byte) (p : Part) : (complete e st r p).freeUses = p.freeUses := by
  unfold complete
  (repeat' split) <;> simp
@[simp] theorem complete_pins (e : RequestEntry) (st : Status) (r : List Byte) (p : Part) : (complete e st r p).pins = p.pins := by
  unfold complete
  (repeat' split) <;> simp
@[simp] theorem complete_straps (e : RequestEntry) (st : Status) (r : List Byte) (p : Part) : (complete e st r p).straps = p.straps := by
  unfold complete
  (repeat' split) <;> simp
@[simp] theorem complete_lastReset (e : RequestEntry) (st : Status) (r : List Byte) (p : Part) : (complete e st r p).lastReset = p.lastReset := by
  unfold complete
  (repeat' split) <;> simp
@[simp] theorem complete_filing (e : RequestEntry) (st : Status) (r : List Byte) (p : Part) : (complete e st r p).filing = p.filing := by
  unfold complete
  (repeat' split) <;> simp
@[simp] theorem complete_portA (e : RequestEntry) (st : Status) (r : List Byte) (p : Part) : (complete e st r p).portA = p.portA := by
  unfold complete
  (repeat' split) <;> simp
@[simp] theorem complete_portB (e : RequestEntry) (st : Status) (r : List Byte) (p : Part) : (complete e st r p).portB = p.portB := by
  unfold complete
  (repeat' split) <;> simp
@[simp] theorem complete_timeBase (e : RequestEntry) (st : Status) (r : List Byte) (p : Part) : (complete e st r p).timeBase = p.timeBase := by
  unfold complete
  (repeat' split) <;> simp
@[simp] theorem complete_streams (e : RequestEntry) (st : Status) (r : List Byte) (p : Part) : (complete e st r p).streams = p.streams := by
  unfold complete
  (repeat' split) <;> simp
@[simp] theorem complete_engine (e : RequestEntry) (st : Status) (r : List Byte) (p : Part) : (complete e st r p).engine = p.engine := by
  unfold complete
  (repeat' split) <;> simp
@[simp] theorem complete_sorter (e : RequestEntry) (st : Status) (r : List Byte) (p : Part) : (complete e st r p).sorter = p.sorter := by
  unfold complete
  (repeat' split) <;> simp
@[simp] theorem complete_lanes (e : RequestEntry) (st : Status) (r : List Byte) (p : Part) : (complete e st r p).lanes = p.lanes := by
  unfold complete
  (repeat' split) <;> simp
@[simp] theorem complete_store (e : RequestEntry) (st : Status) (r : List Byte) (p : Part) : (complete e st r p).store = p.store := by
  unfold complete
  (repeat' split) <;> simp
@[simp] theorem complete_egress (e : RequestEntry) (st : Status) (r : List Byte) (p : Part) : (complete e st r p).egress = p.egress := by
  unfold complete
  (repeat' split) <;> simp
@[simp] theorem complete_attention (e : RequestEntry) (st : Status) (r : List Byte) (p : Part) : (complete e st r p).attention = p.attention := by
  unfold complete
  (repeat' split) <;> simp

@[simp] theorem takeRequest_clock (t c : Byte) (ps : List Byte) (p : Part) : (takeRequest t c ps p).clock = p.clock := by
  unfold takeRequest
  (repeat' split) <;> simp
@[simp] theorem takeRequest_idleSpan (t c : Byte) (ps : List Byte) (p : Part) : (takeRequest t c ps p).idleSpan = p.idleSpan := by
  unfold takeRequest
  (repeat' split) <;> simp
@[simp] theorem takeRequest_freeUses (t c : Byte) (ps : List Byte) (p : Part) : (takeRequest t c ps p).freeUses = p.freeUses := by
  unfold takeRequest
  (repeat' split) <;> simp
@[simp] theorem takeRequest_pins (t c : Byte) (ps : List Byte) (p : Part) : (takeRequest t c ps p).pins = p.pins := by
  unfold takeRequest
  (repeat' split) <;> simp
@[simp] theorem takeRequest_straps (t c : Byte) (ps : List Byte) (p : Part) : (takeRequest t c ps p).straps = p.straps := by
  unfold takeRequest
  (repeat' split) <;> simp
@[simp] theorem takeRequest_lastReset (t c : Byte) (ps : List Byte) (p : Part) : (takeRequest t c ps p).lastReset = p.lastReset := by
  unfold takeRequest
  (repeat' split) <;> simp
@[simp] theorem takeRequest_filing (t c : Byte) (ps : List Byte) (p : Part) : (takeRequest t c ps p).filing = p.filing := by
  unfold takeRequest
  (repeat' split) <;> simp
@[simp] theorem takeRequest_portA (t c : Byte) (ps : List Byte) (p : Part) : (takeRequest t c ps p).portA = p.portA := by
  unfold takeRequest
  (repeat' split) <;> simp
@[simp] theorem takeRequest_portB (t c : Byte) (ps : List Byte) (p : Part) : (takeRequest t c ps p).portB = p.portB := by
  unfold takeRequest
  (repeat' split) <;> simp
@[simp] theorem takeRequest_timeBase (t c : Byte) (ps : List Byte) (p : Part) : (takeRequest t c ps p).timeBase = p.timeBase := by
  unfold takeRequest
  (repeat' split) <;> simp
@[simp] theorem takeRequest_streams (t c : Byte) (ps : List Byte) (p : Part) : (takeRequest t c ps p).streams = p.streams := by
  unfold takeRequest
  (repeat' split) <;> simp
@[simp] theorem takeRequest_engine (t c : Byte) (ps : List Byte) (p : Part) : (takeRequest t c ps p).engine = p.engine := by
  unfold takeRequest
  (repeat' split) <;> simp
@[simp] theorem takeRequest_sorter (t c : Byte) (ps : List Byte) (p : Part) : (takeRequest t c ps p).sorter = p.sorter := by
  unfold takeRequest
  (repeat' split) <;> simp
@[simp] theorem takeRequest_lanes (t c : Byte) (ps : List Byte) (p : Part) : (takeRequest t c ps p).lanes = p.lanes := by
  unfold takeRequest
  (repeat' split) <;> simp
@[simp] theorem takeRequest_store (t c : Byte) (ps : List Byte) (p : Part) : (takeRequest t c ps p).store = p.store := by
  unfold takeRequest
  (repeat' split) <;> simp
@[simp] theorem takeRequest_egress (t c : Byte) (ps : List Byte) (p : Part) : (takeRequest t c ps p).egress = p.egress := by
  unfold takeRequest
  (repeat' split) <;> simp
@[simp] theorem takeRequest_attention (t c : Byte) (ps : List Byte) (p : Part) : (takeRequest t c ps p).attention = p.attention := by
  unfold takeRequest
  (repeat' split) <;> simp

end Sys2Proof.Machine
end

