-- ==== Sys2Proof/Laws/StoreFrames.lean ====
section
/-! SUPPORT. What the operations of the Payload Store leave unchanged. -/

namespace Sys2Proof.Machine

@[simp] theorem passBuffer_clock (n : Nat) (st : BufState) (p : Part) : (passBuffer n st p).clock = p.clock := by simp [passBuffer]
@[simp] theorem passBuffer_idleSpan (n : Nat) (st : BufState) (p : Part) : (passBuffer n st p).idleSpan = p.idleSpan := by simp [passBuffer]
@[simp] theorem passBuffer_freeUses (n : Nat) (st : BufState) (p : Part) : (passBuffer n st p).freeUses = p.freeUses := by simp [passBuffer]
@[simp] theorem passBuffer_pins (n : Nat) (st : BufState) (p : Part) : (passBuffer n st p).pins = p.pins := by simp [passBuffer]
@[simp] theorem passBuffer_straps (n : Nat) (st : BufState) (p : Part) : (passBuffer n st p).straps = p.straps := by simp [passBuffer]
@[simp] theorem passBuffer_lastReset (n : Nat) (st : BufState) (p : Part) : (passBuffer n st p).lastReset = p.lastReset := by simp [passBuffer]
@[simp] theorem passBuffer_filing (n : Nat) (st : BufState) (p : Part) : (passBuffer n st p).filing = p.filing := by simp [passBuffer]
@[simp] theorem passBuffer_portA (n : Nat) (st : BufState) (p : Part) : (passBuffer n st p).portA = p.portA := by simp [passBuffer]
@[simp] theorem passBuffer_portB (n : Nat) (st : BufState) (p : Part) : (passBuffer n st p).portB = p.portB := by simp [passBuffer]
@[simp] theorem passBuffer_timeBase (n : Nat) (st : BufState) (p : Part) : (passBuffer n st p).timeBase = p.timeBase := by simp [passBuffer]
@[simp] theorem passBuffer_streams (n : Nat) (st : BufState) (p : Part) : (passBuffer n st p).streams = p.streams := by simp [passBuffer]
@[simp] theorem passBuffer_engine (n : Nat) (st : BufState) (p : Part) : (passBuffer n st p).engine = p.engine := by simp [passBuffer]
@[simp] theorem passBuffer_sorter (n : Nat) (st : BufState) (p : Part) : (passBuffer n st p).sorter = p.sorter := by simp [passBuffer]
@[simp] theorem passBuffer_lanes (n : Nat) (st : BufState) (p : Part) : (passBuffer n st p).lanes = p.lanes := by simp [passBuffer]
@[simp] theorem passBuffer_egress (n : Nat) (st : BufState) (p : Part) : (passBuffer n st p).egress = p.egress := by simp [passBuffer]
@[simp] theorem passBuffer_control (n : Nat) (st : BufState) (p : Part) : (passBuffer n st p).control = p.control := by simp [passBuffer]
@[simp] theorem passBuffer_attention (n : Nat) (st : BufState) (p : Part) : (passBuffer n st p).attention = p.attention := by simp [passBuffer]

@[simp] theorem evalLowMark_clock (p : Part) : (evalLowMark p).clock = p.clock := by
  unfold evalLowMark
  dsimp only
  (repeat' split) <;> simp
@[simp] theorem evalLowMark_idleSpan (p : Part) : (evalLowMark p).idleSpan = p.idleSpan := by
  unfold evalLowMark
  dsimp only
  (repeat' split) <;> simp
@[simp] theorem evalLowMark_freeUses (p : Part) : (evalLowMark p).freeUses = p.freeUses := by
  unfold evalLowMark
  dsimp only
  (repeat' split) <;> simp
@[simp] theorem evalLowMark_pins (p : Part) : (evalLowMark p).pins = p.pins := by
  unfold evalLowMark
  dsimp only
  (repeat' split) <;> simp
@[simp] theorem evalLowMark_straps (p : Part) : (evalLowMark p).straps = p.straps := by
  unfold evalLowMark
  dsimp only
  (repeat' split) <;> simp
@[simp] theorem evalLowMark_lastReset (p : Part) : (evalLowMark p).lastReset = p.lastReset := by
  unfold evalLowMark
  dsimp only
  (repeat' split) <;> simp
@[simp] theorem evalLowMark_filing (p : Part) : (evalLowMark p).filing = p.filing := by
  unfold evalLowMark
  dsimp only
  (repeat' split) <;> simp
@[simp] theorem evalLowMark_portA (p : Part) : (evalLowMark p).portA = p.portA := by
  unfold evalLowMark
  dsimp only
  (repeat' split) <;> simp
@[simp] theorem evalLowMark_portB (p : Part) : (evalLowMark p).portB = p.portB := by
  unfold evalLowMark
  dsimp only
  (repeat' split) <;> simp
@[simp] theorem evalLowMark_timeBase (p : Part) : (evalLowMark p).timeBase = p.timeBase := by
  unfold evalLowMark
  dsimp only
  (repeat' split) <;> simp
@[simp] theorem evalLowMark_streams (p : Part) : (evalLowMark p).streams = p.streams := by
  unfold evalLowMark
  dsimp only
  (repeat' split) <;> simp
@[simp] theorem evalLowMark_engine (p : Part) : (evalLowMark p).engine = p.engine := by
  unfold evalLowMark
  dsimp only
  (repeat' split) <;> simp
@[simp] theorem evalLowMark_sorter (p : Part) : (evalLowMark p).sorter = p.sorter := by
  unfold evalLowMark
  dsimp only
  (repeat' split) <;> simp
@[simp] theorem evalLowMark_lanes (p : Part) : (evalLowMark p).lanes = p.lanes := by
  unfold evalLowMark
  dsimp only
  (repeat' split) <;> simp
@[simp] theorem evalLowMark_egress (p : Part) : (evalLowMark p).egress = p.egress := by
  unfold evalLowMark
  dsimp only
  (repeat' split) <;> simp

@[simp] theorem claim_clock (p : Part) : (claim p).1.clock = p.clock := by
  unfold claim
  (repeat' split) <;> simp
@[simp] theorem claim_idleSpan (p : Part) : (claim p).1.idleSpan = p.idleSpan := by
  unfold claim
  (repeat' split) <;> simp
@[simp] theorem claim_freeUses (p : Part) : (claim p).1.freeUses = p.freeUses := by
  unfold claim
  (repeat' split) <;> simp
@[simp] theorem claim_pins (p : Part) : (claim p).1.pins = p.pins := by
  unfold claim
  (repeat' split) <;> simp
@[simp] theorem claim_straps (p : Part) : (claim p).1.straps = p.straps := by
  unfold claim
  (repeat' split) <;> simp
@[simp] theorem claim_lastReset (p : Part) : (claim p).1.lastReset = p.lastReset := by
  unfold claim
  (repeat' split) <;> simp
@[simp] theorem claim_filing (p : Part) : (claim p).1.filing = p.filing := by
  unfold claim
  (repeat' split) <;> simp
@[simp] theorem claim_portA (p : Part) : (claim p).1.portA = p.portA := by
  unfold claim
  (repeat' split) <;> simp
@[simp] theorem claim_portB (p : Part) : (claim p).1.portB = p.portB := by
  unfold claim
  (repeat' split) <;> simp
@[simp] theorem claim_timeBase (p : Part) : (claim p).1.timeBase = p.timeBase := by
  unfold claim
  (repeat' split) <;> simp
@[simp] theorem claim_streams (p : Part) : (claim p).1.streams = p.streams := by
  unfold claim
  (repeat' split) <;> simp
@[simp] theorem claim_engine (p : Part) : (claim p).1.engine = p.engine := by
  unfold claim
  (repeat' split) <;> simp
@[simp] theorem claim_sorter (p : Part) : (claim p).1.sorter = p.sorter := by
  unfold claim
  (repeat' split) <;> simp
@[simp] theorem claim_lanes (p : Part) : (claim p).1.lanes = p.lanes := by
  unfold claim
  (repeat' split) <;> simp
@[simp] theorem claim_egress (p : Part) : (claim p).1.egress = p.egress := by
  unfold claim
  (repeat' split) <;> simp

@[simp] theorem returnBuffers_clock (ns : List Nat) (p : Part) : (returnBuffers ns p).clock = p.clock := by simp [returnBuffers]
@[simp] theorem returnBuffers_idleSpan (ns : List Nat) (p : Part) : (returnBuffers ns p).idleSpan = p.idleSpan := by simp [returnBuffers]
@[simp] theorem returnBuffers_freeUses (ns : List Nat) (p : Part) : (returnBuffers ns p).freeUses = p.freeUses := by simp [returnBuffers]
@[simp] theorem returnBuffers_pins (ns : List Nat) (p : Part) : (returnBuffers ns p).pins = p.pins := by simp [returnBuffers]
@[simp] theorem returnBuffers_straps (ns : List Nat) (p : Part) : (returnBuffers ns p).straps = p.straps := by simp [returnBuffers]
@[simp] theorem returnBuffers_lastReset (ns : List Nat) (p : Part) : (returnBuffers ns p).lastReset = p.lastReset := by simp [returnBuffers]
@[simp] theorem returnBuffers_filing (ns : List Nat) (p : Part) : (returnBuffers ns p).filing = p.filing := by simp [returnBuffers]
@[simp] theorem returnBuffers_portA (ns : List Nat) (p : Part) : (returnBuffers ns p).portA = p.portA := by simp [returnBuffers]
@[simp] theorem returnBuffers_portB (ns : List Nat) (p : Part) : (returnBuffers ns p).portB = p.portB := by simp [returnBuffers]
@[simp] theorem returnBuffers_timeBase (ns : List Nat) (p : Part) : (returnBuffers ns p).timeBase = p.timeBase := by simp [returnBuffers]
@[simp] theorem returnBuffers_streams (ns : List Nat) (p : Part) : (returnBuffers ns p).streams = p.streams := by simp [returnBuffers]
@[simp] theorem returnBuffers_engine (ns : List Nat) (p : Part) : (returnBuffers ns p).engine = p.engine := by simp [returnBuffers]
@[simp] theorem returnBuffers_sorter (ns : List Nat) (p : Part) : (returnBuffers ns p).sorter = p.sorter := by simp [returnBuffers]
@[simp] theorem returnBuffers_lanes (ns : List Nat) (p : Part) : (returnBuffers ns p).lanes = p.lanes := by simp [returnBuffers]
@[simp] theorem returnBuffers_egress (ns : List Nat) (p : Part) : (returnBuffers ns p).egress = p.egress := by simp [returnBuffers]
@[simp] theorem returnBuffers_control (ns : List Nat) (p : Part) : (returnBuffers ns p).control = p.control := by simp [returnBuffers]
@[simp] theorem returnBuffers_attention (ns : List Nat) (p : Part) : (returnBuffers ns p).attention = p.attention := by simp [returnBuffers]

@[simp] theorem returnClaimed_clock (n : Option Nat) (p : Part) : (returnClaimed n p).clock = p.clock := by cases n <;> simp [returnClaimed]
@[simp] theorem returnClaimed_idleSpan (n : Option Nat) (p : Part) : (returnClaimed n p).idleSpan = p.idleSpan := by cases n <;> simp [returnClaimed]
@[simp] theorem returnClaimed_freeUses (n : Option Nat) (p : Part) : (returnClaimed n p).freeUses = p.freeUses := by cases n <;> simp [returnClaimed]
@[simp] theorem returnClaimed_pins (n : Option Nat) (p : Part) : (returnClaimed n p).pins = p.pins := by cases n <;> simp [returnClaimed]
@[simp] theorem returnClaimed_straps (n : Option Nat) (p : Part) : (returnClaimed n p).straps = p.straps := by cases n <;> simp [returnClaimed]
@[simp] theorem returnClaimed_lastReset (n : Option Nat) (p : Part) : (returnClaimed n p).lastReset = p.lastReset := by cases n <;> simp [returnClaimed]
@[simp] theorem returnClaimed_filing (n : Option Nat) (p : Part) : (returnClaimed n p).filing = p.filing := by cases n <;> simp [returnClaimed]
@[simp] theorem returnClaimed_portA (n : Option Nat) (p : Part) : (returnClaimed n p).portA = p.portA := by cases n <;> simp [returnClaimed]
@[simp] theorem returnClaimed_portB (n : Option Nat) (p : Part) : (returnClaimed n p).portB = p.portB := by cases n <;> simp [returnClaimed]
@[simp] theorem returnClaimed_timeBase (n : Option Nat) (p : Part) : (returnClaimed n p).timeBase = p.timeBase := by cases n <;> simp [returnClaimed]
@[simp] theorem returnClaimed_streams (n : Option Nat) (p : Part) : (returnClaimed n p).streams = p.streams := by cases n <;> simp [returnClaimed]
@[simp] theorem returnClaimed_engine (n : Option Nat) (p : Part) : (returnClaimed n p).engine = p.engine := by cases n <;> simp [returnClaimed]
@[simp] theorem returnClaimed_sorter (n : Option Nat) (p : Part) : (returnClaimed n p).sorter = p.sorter := by cases n <;> simp [returnClaimed]
@[simp] theorem returnClaimed_lanes (n : Option Nat) (p : Part) : (returnClaimed n p).lanes = p.lanes := by cases n <;> simp [returnClaimed]
@[simp] theorem returnClaimed_egress (n : Option Nat) (p : Part) : (returnClaimed n p).egress = p.egress := by cases n <;> simp [returnClaimed]
@[simp] theorem returnClaimed_control (n : Option Nat) (p : Part) : (returnClaimed n p).control = p.control := by cases n <;> simp [returnClaimed]
@[simp] theorem returnClaimed_attention (n : Option Nat) (p : Part) : (returnClaimed n p).attention = p.attention := by cases n <;> simp [returnClaimed]

@[simp] theorem verify_clock (n : Nat) (p : Part) : (verify n p).1.clock = p.clock := by
  unfold verify
  dsimp only
  (repeat' split) <;> simp
@[simp] theorem verify_idleSpan (n : Nat) (p : Part) : (verify n p).1.idleSpan = p.idleSpan := by
  unfold verify
  dsimp only
  (repeat' split) <;> simp
@[simp] theorem verify_freeUses (n : Nat) (p : Part) : (verify n p).1.freeUses = p.freeUses := by
  unfold verify
  dsimp only
  (repeat' split) <;> simp
@[simp] theorem verify_pins (n : Nat) (p : Part) : (verify n p).1.pins = p.pins := by
  unfold verify
  dsimp only
  (repeat' split) <;> simp
@[simp] theorem verify_straps (n : Nat) (p : Part) : (verify n p).1.straps = p.straps := by
  unfold verify
  dsimp only
  (repeat' split) <;> simp
@[simp] theorem verify_lastReset (n : Nat) (p : Part) : (verify n p).1.lastReset = p.lastReset := by
  unfold verify
  dsimp only
  (repeat' split) <;> simp
@[simp] theorem verify_filing (n : Nat) (p : Part) : (verify n p).1.filing = p.filing := by
  unfold verify
  dsimp only
  (repeat' split) <;> simp
@[simp] theorem verify_portA (n : Nat) (p : Part) : (verify n p).1.portA = p.portA := by
  unfold verify
  dsimp only
  (repeat' split) <;> simp
@[simp] theorem verify_portB (n : Nat) (p : Part) : (verify n p).1.portB = p.portB := by
  unfold verify
  dsimp only
  (repeat' split) <;> simp
@[simp] theorem verify_timeBase (n : Nat) (p : Part) : (verify n p).1.timeBase = p.timeBase := by
  unfold verify
  dsimp only
  (repeat' split) <;> simp
@[simp] theorem verify_streams (n : Nat) (p : Part) : (verify n p).1.streams = p.streams := by
  unfold verify
  dsimp only
  (repeat' split) <;> simp
@[simp] theorem verify_engine (n : Nat) (p : Part) : (verify n p).1.engine = p.engine := by
  unfold verify
  dsimp only
  (repeat' split) <;> simp
@[simp] theorem verify_sorter (n : Nat) (p : Part) : (verify n p).1.sorter = p.sorter := by
  unfold verify
  dsimp only
  (repeat' split) <;> simp
@[simp] theorem verify_lanes (n : Nat) (p : Part) : (verify n p).1.lanes = p.lanes := by
  unfold verify
  dsimp only
  (repeat' split) <;> simp
@[simp] theorem verify_egress (n : Nat) (p : Part) : (verify n p).1.egress = p.egress := by
  unfold verify
  dsimp only
  (repeat' split) <;> simp
@[simp] theorem verify_control (n : Nat) (p : Part) : (verify n p).1.control = p.control := by
  unfold verify
  dsimp only
  (repeat' split) <;> simp
@[simp] theorem verify_attention (n : Nat) (p : Part) : (verify n p).1.attention = p.attention := by
  unfold verify
  dsimp only
  (repeat' split) <;> simp

@[simp] theorem withdrawBuffer_clock (n : Nat) (p : Part) : (withdrawBuffer n p).clock = p.clock := by simp [withdrawBuffer]
@[simp] theorem withdrawBuffer_idleSpan (n : Nat) (p : Part) : (withdrawBuffer n p).idleSpan = p.idleSpan := by simp [withdrawBuffer]
@[simp] theorem withdrawBuffer_freeUses (n : Nat) (p : Part) : (withdrawBuffer n p).freeUses = p.freeUses := by simp [withdrawBuffer]
@[simp] theorem withdrawBuffer_pins (n : Nat) (p : Part) : (withdrawBuffer n p).pins = p.pins := by simp [withdrawBuffer]
@[simp] theorem withdrawBuffer_straps (n : Nat) (p : Part) : (withdrawBuffer n p).straps = p.straps := by simp [withdrawBuffer]
@[simp] theorem withdrawBuffer_lastReset (n : Nat) (p : Part) : (withdrawBuffer n p).lastReset = p.lastReset := by simp [withdrawBuffer]
@[simp] theorem withdrawBuffer_filing (n : Nat) (p : Part) : (withdrawBuffer n p).filing = p.filing := by simp [withdrawBuffer]
@[simp] theorem withdrawBuffer_portA (n : Nat) (p : Part) : (withdrawBuffer n p).portA = p.portA := by simp [withdrawBuffer]
@[simp] theorem withdrawBuffer_portB (n : Nat) (p : Part) : (withdrawBuffer n p).portB = p.portB := by simp [withdrawBuffer]
@[simp] theorem withdrawBuffer_timeBase (n : Nat) (p : Part) : (withdrawBuffer n p).timeBase = p.timeBase := by simp [withdrawBuffer]
@[simp] theorem withdrawBuffer_streams (n : Nat) (p : Part) : (withdrawBuffer n p).streams = p.streams := by simp [withdrawBuffer]
@[simp] theorem withdrawBuffer_engine (n : Nat) (p : Part) : (withdrawBuffer n p).engine = p.engine := by simp [withdrawBuffer]
@[simp] theorem withdrawBuffer_sorter (n : Nat) (p : Part) : (withdrawBuffer n p).sorter = p.sorter := by simp [withdrawBuffer]
@[simp] theorem withdrawBuffer_lanes (n : Nat) (p : Part) : (withdrawBuffer n p).lanes = p.lanes := by simp [withdrawBuffer]
@[simp] theorem withdrawBuffer_egress (n : Nat) (p : Part) : (withdrawBuffer n p).egress = p.egress := by simp [withdrawBuffer]

@[simp] theorem sweepVisit_clock (n : Nat) (p : Part) : (sweepVisit n p).clock = p.clock := by
  induction n generalizing p with
  | zero => rfl
  | succ n ih =>
    unfold sweepVisit
    (repeat' split) <;> simp [ih]
@[simp] theorem sweepVisit_idleSpan (n : Nat) (p : Part) : (sweepVisit n p).idleSpan = p.idleSpan := by
  induction n generalizing p with
  | zero => rfl
  | succ n ih =>
    unfold sweepVisit
    (repeat' split) <;> simp [ih]
@[simp] theorem sweepVisit_freeUses (n : Nat) (p : Part) : (sweepVisit n p).freeUses = p.freeUses := by
  induction n generalizing p with
  | zero => rfl
  | succ n ih =>
    unfold sweepVisit
    (repeat' split) <;> simp [ih]
@[simp] theorem sweepVisit_pins (n : Nat) (p : Part) : (sweepVisit n p).pins = p.pins := by
  induction n generalizing p with
  | zero => rfl
  | succ n ih =>
    unfold sweepVisit
    (repeat' split) <;> simp [ih]
@[simp] theorem sweepVisit_straps (n : Nat) (p : Part) : (sweepVisit n p).straps = p.straps := by
  induction n generalizing p with
  | zero => rfl
  | succ n ih =>
    unfold sweepVisit
    (repeat' split) <;> simp [ih]
@[simp] theorem sweepVisit_lastReset (n : Nat) (p : Part) : (sweepVisit n p).lastReset = p.lastReset := by
  induction n generalizing p with
  | zero => rfl
  | succ n ih =>
    unfold sweepVisit
    (repeat' split) <;> simp [ih]
@[simp] theorem sweepVisit_filing (n : Nat) (p : Part) : (sweepVisit n p).filing = p.filing := by
  induction n generalizing p with
  | zero => rfl
  | succ n ih =>
    unfold sweepVisit
    (repeat' split) <;> simp [ih]
@[simp] theorem sweepVisit_portA (n : Nat) (p : Part) : (sweepVisit n p).portA = p.portA := by
  induction n generalizing p with
  | zero => rfl
  | succ n ih =>
    unfold sweepVisit
    (repeat' split) <;> simp [ih]
@[simp] theorem sweepVisit_portB (n : Nat) (p : Part) : (sweepVisit n p).portB = p.portB := by
  induction n generalizing p with
  | zero => rfl
  | succ n ih =>
    unfold sweepVisit
    (repeat' split) <;> simp [ih]
@[simp] theorem sweepVisit_timeBase (n : Nat) (p : Part) : (sweepVisit n p).timeBase = p.timeBase := by
  induction n generalizing p with
  | zero => rfl
  | succ n ih =>
    unfold sweepVisit
    (repeat' split) <;> simp [ih]
@[simp] theorem sweepVisit_streams (n : Nat) (p : Part) : (sweepVisit n p).streams = p.streams := by
  induction n generalizing p with
  | zero => rfl
  | succ n ih =>
    unfold sweepVisit
    (repeat' split) <;> simp [ih]
@[simp] theorem sweepVisit_engine (n : Nat) (p : Part) : (sweepVisit n p).engine = p.engine := by
  induction n generalizing p with
  | zero => rfl
  | succ n ih =>
    unfold sweepVisit
    (repeat' split) <;> simp [ih]
@[simp] theorem sweepVisit_sorter (n : Nat) (p : Part) : (sweepVisit n p).sorter = p.sorter := by
  induction n generalizing p with
  | zero => rfl
  | succ n ih =>
    unfold sweepVisit
    (repeat' split) <;> simp [ih]
@[simp] theorem sweepVisit_lanes (n : Nat) (p : Part) : (sweepVisit n p).lanes = p.lanes := by
  induction n generalizing p with
  | zero => rfl
  | succ n ih =>
    unfold sweepVisit
    (repeat' split) <;> simp [ih]
@[simp] theorem sweepVisit_egress (n : Nat) (p : Part) : (sweepVisit n p).egress = p.egress := by
  induction n generalizing p with
  | zero => rfl
  | succ n ih =>
    unfold sweepVisit
    (repeat' split) <;> simp [ih]

@[simp] theorem sweepOn_clock (p : Part) : (sweepOn p).clock = p.clock := by simp [sweepOn]
@[simp] theorem sweepOn_idleSpan (p : Part) : (sweepOn p).idleSpan = p.idleSpan := by simp [sweepOn]
@[simp] theorem sweepOn_freeUses (p : Part) : (sweepOn p).freeUses = p.freeUses := by simp [sweepOn]
@[simp] theorem sweepOn_pins (p : Part) : (sweepOn p).pins = p.pins := by simp [sweepOn]
@[simp] theorem sweepOn_straps (p : Part) : (sweepOn p).straps = p.straps := by simp [sweepOn]
@[simp] theorem sweepOn_lastReset (p : Part) : (sweepOn p).lastReset = p.lastReset := by simp [sweepOn]
@[simp] theorem sweepOn_filing (p : Part) : (sweepOn p).filing = p.filing := by simp [sweepOn]
@[simp] theorem sweepOn_portA (p : Part) : (sweepOn p).portA = p.portA := by simp [sweepOn]
@[simp] theorem sweepOn_portB (p : Part) : (sweepOn p).portB = p.portB := by simp [sweepOn]
@[simp] theorem sweepOn_timeBase (p : Part) : (sweepOn p).timeBase = p.timeBase := by simp [sweepOn]
@[simp] theorem sweepOn_streams (p : Part) : (sweepOn p).streams = p.streams := by simp [sweepOn]
@[simp] theorem sweepOn_engine (p : Part) : (sweepOn p).engine = p.engine := by simp [sweepOn]
@[simp] theorem sweepOn_sorter (p : Part) : (sweepOn p).sorter = p.sorter := by simp [sweepOn]
@[simp] theorem sweepOn_lanes (p : Part) : (sweepOn p).lanes = p.lanes := by simp [sweepOn]
@[simp] theorem sweepOn_egress (p : Part) : (sweepOn p).egress = p.egress := by simp [sweepOn]

@[simp] theorem sweepEnd_clock (v : Bool) (n : Nat) (p : Part) : (sweepEnd v n p).clock = p.clock := by cases v <;> simp [sweepEnd]
@[simp] theorem sweepEnd_idleSpan (v : Bool) (n : Nat) (p : Part) : (sweepEnd v n p).idleSpan = p.idleSpan := by cases v <;> simp [sweepEnd]
@[simp] theorem sweepEnd_freeUses (v : Bool) (n : Nat) (p : Part) : (sweepEnd v n p).freeUses = p.freeUses := by cases v <;> simp [sweepEnd]
@[simp] theorem sweepEnd_pins (v : Bool) (n : Nat) (p : Part) : (sweepEnd v n p).pins = p.pins := by cases v <;> simp [sweepEnd]
@[simp] theorem sweepEnd_straps (v : Bool) (n : Nat) (p : Part) : (sweepEnd v n p).straps = p.straps := by cases v <;> simp [sweepEnd]
@[simp] theorem sweepEnd_lastReset (v : Bool) (n : Nat) (p : Part) : (sweepEnd v n p).lastReset = p.lastReset := by cases v <;> simp [sweepEnd]
@[simp] theorem sweepEnd_filing (v : Bool) (n : Nat) (p : Part) : (sweepEnd v n p).filing = p.filing := by cases v <;> simp [sweepEnd]
@[simp] theorem sweepEnd_portA (v : Bool) (n : Nat) (p : Part) : (sweepEnd v n p).portA = p.portA := by cases v <;> simp [sweepEnd]
@[simp] theorem sweepEnd_portB (v : Bool) (n : Nat) (p : Part) : (sweepEnd v n p).portB = p.portB := by cases v <;> simp [sweepEnd]
@[simp] theorem sweepEnd_timeBase (v : Bool) (n : Nat) (p : Part) : (sweepEnd v n p).timeBase = p.timeBase := by cases v <;> simp [sweepEnd]
@[simp] theorem sweepEnd_streams (v : Bool) (n : Nat) (p : Part) : (sweepEnd v n p).streams = p.streams := by cases v <;> simp [sweepEnd]
@[simp] theorem sweepEnd_engine (v : Bool) (n : Nat) (p : Part) : (sweepEnd v n p).engine = p.engine := by cases v <;> simp [sweepEnd]
@[simp] theorem sweepEnd_sorter (v : Bool) (n : Nat) (p : Part) : (sweepEnd v n p).sorter = p.sorter := by cases v <;> simp [sweepEnd]
@[simp] theorem sweepEnd_lanes (v : Bool) (n : Nat) (p : Part) : (sweepEnd v n p).lanes = p.lanes := by cases v <;> simp [sweepEnd]
@[simp] theorem sweepEnd_egress (v : Bool) (n : Nat) (p : Part) : (sweepEnd v n p).egress = p.egress := by cases v <;> simp [sweepEnd]

@[simp] theorem sweepVerdict_clock (v : Bool) (p : Part) : (sweepVerdict v p).clock = p.clock := by
  unfold sweepVerdict
  (repeat' split) <;> simp
@[simp] theorem sweepVerdict_idleSpan (v : Bool) (p : Part) : (sweepVerdict v p).idleSpan = p.idleSpan := by
  unfold sweepVerdict
  (repeat' split) <;> simp
@[simp] theorem sweepVerdict_freeUses (v : Bool) (p : Part) : (sweepVerdict v p).freeUses = p.freeUses := by
  unfold sweepVerdict
  (repeat' split) <;> simp
@[simp] theorem sweepVerdict_pins (v : Bool) (p : Part) : (sweepVerdict v p).pins = p.pins := by
  unfold sweepVerdict
  (repeat' split) <;> simp
@[simp] theorem sweepVerdict_straps (v : Bool) (p : Part) : (sweepVerdict v p).straps = p.straps := by
  unfold sweepVerdict
  (repeat' split) <;> simp
@[simp] theorem sweepVerdict_lastReset (v : Bool) (p : Part) : (sweepVerdict v p).lastReset = p.lastReset := by
  unfold sweepVerdict
  (repeat' split) <;> simp
@[simp] theorem sweepVerdict_filing (v : Bool) (p : Part) : (sweepVerdict v p).filing = p.filing := by
  unfold sweepVerdict
  (repeat' split) <;> simp
@[simp] theorem sweepVerdict_portA (v : Bool) (p : Part) : (sweepVerdict v p).portA = p.portA := by
  unfold sweepVerdict
  (repeat' split) <;> simp
@[simp] theorem sweepVerdict_portB (v : Bool) (p : Part) : (sweepVerdict v p).portB = p.portB := by
  unfold sweepVerdict
  (repeat' split) <;> simp
@[simp] theorem sweepVerdict_timeBase (v : Bool) (p : Part) : (sweepVerdict v p).timeBase = p.timeBase := by
  unfold sweepVerdict
  (repeat' split) <;> simp
@[simp] theorem sweepVerdict_streams (v : Bool) (p : Part) : (sweepVerdict v p).streams = p.streams := by
  unfold sweepVerdict
  (repeat' split) <;> simp
@[simp] theorem sweepVerdict_engine (v : Bool) (p : Part) : (sweepVerdict v p).engine = p.engine := by
  unfold sweepVerdict
  (repeat' split) <;> simp
@[simp] theorem sweepVerdict_sorter (v : Bool) (p : Part) : (sweepVerdict v p).sorter = p.sorter := by
  unfold sweepVerdict
  (repeat' split) <;> simp
@[simp] theorem sweepVerdict_lanes (v : Bool) (p : Part) : (sweepVerdict v p).lanes = p.lanes := by
  unfold sweepVerdict
  (repeat' split) <;> simp
@[simp] theorem sweepVerdict_egress (v : Bool) (p : Part) : (sweepVerdict v p).egress = p.egress := by
  unfold sweepVerdict
  (repeat' split) <;> simp

end Sys2Proof.Machine
end

