-- ==== Sys2Proof/Laws/StreamFrames.lean ====
section
/-! SUPPORT. What the operations of the Stream Table leave unchanged. -/

namespace Sys2Proof.Machine

@[simp] theorem putMarked_clock (i : Nat) (st : Option Stream) (p : Part) : (putMarked i st p).clock = p.clock := by simp [putMarked]
@[simp] theorem putMarked_idleSpan (i : Nat) (st : Option Stream) (p : Part) : (putMarked i st p).idleSpan = p.idleSpan := by simp [putMarked]
@[simp] theorem putMarked_freeUses (i : Nat) (st : Option Stream) (p : Part) : (putMarked i st p).freeUses = p.freeUses := by simp [putMarked]
@[simp] theorem putMarked_pins (i : Nat) (st : Option Stream) (p : Part) : (putMarked i st p).pins = p.pins := by simp [putMarked]
@[simp] theorem putMarked_straps (i : Nat) (st : Option Stream) (p : Part) : (putMarked i st p).straps = p.straps := by simp [putMarked]
@[simp] theorem putMarked_lastReset (i : Nat) (st : Option Stream) (p : Part) : (putMarked i st p).lastReset = p.lastReset := by simp [putMarked]
@[simp] theorem putMarked_filing (i : Nat) (st : Option Stream) (p : Part) : (putMarked i st p).filing = p.filing := by simp [putMarked]
@[simp] theorem putMarked_portA (i : Nat) (st : Option Stream) (p : Part) : (putMarked i st p).portA = p.portA := by simp [putMarked]
@[simp] theorem putMarked_portB (i : Nat) (st : Option Stream) (p : Part) : (putMarked i st p).portB = p.portB := by simp [putMarked]
@[simp] theorem putMarked_timeBase (i : Nat) (st : Option Stream) (p : Part) : (putMarked i st p).timeBase = p.timeBase := by simp [putMarked]
@[simp] theorem putMarked_engine (i : Nat) (st : Option Stream) (p : Part) : (putMarked i st p).engine = p.engine := by simp [putMarked]
@[simp] theorem putMarked_sorter (i : Nat) (st : Option Stream) (p : Part) : (putMarked i st p).sorter = p.sorter := by simp [putMarked]
@[simp] theorem putMarked_lanes (i : Nat) (st : Option Stream) (p : Part) : (putMarked i st p).lanes = p.lanes := by simp [putMarked]
@[simp] theorem putMarked_store (i : Nat) (st : Option Stream) (p : Part) : (putMarked i st p).store = p.store := by simp [putMarked]
@[simp] theorem putMarked_egress (i : Nat) (st : Option Stream) (p : Part) : (putMarked i st p).egress = p.egress := by simp [putMarked]

@[simp] theorem fileStream_clock (x : Filing) (p : Part) : (fileStream x p).clock = p.clock := by
  unfold fileStream
  (repeat' split) <;> simp
@[simp] theorem fileStream_idleSpan (x : Filing) (p : Part) : (fileStream x p).idleSpan = p.idleSpan := by
  unfold fileStream
  (repeat' split) <;> simp
@[simp] theorem fileStream_freeUses (x : Filing) (p : Part) : (fileStream x p).freeUses = p.freeUses := by
  unfold fileStream
  (repeat' split) <;> simp
@[simp] theorem fileStream_pins (x : Filing) (p : Part) : (fileStream x p).pins = p.pins := by
  unfold fileStream
  (repeat' split) <;> simp
@[simp] theorem fileStream_straps (x : Filing) (p : Part) : (fileStream x p).straps = p.straps := by
  unfold fileStream
  (repeat' split) <;> simp
@[simp] theorem fileStream_lastReset (x : Filing) (p : Part) : (fileStream x p).lastReset = p.lastReset := by
  unfold fileStream
  (repeat' split) <;> simp
@[simp] theorem fileStream_filing (x : Filing) (p : Part) : (fileStream x p).filing = p.filing := by
  unfold fileStream
  (repeat' split) <;> simp
@[simp] theorem fileStream_portA (x : Filing) (p : Part) : (fileStream x p).portA = p.portA := by
  unfold fileStream
  (repeat' split) <;> simp
@[simp] theorem fileStream_portB (x : Filing) (p : Part) : (fileStream x p).portB = p.portB := by
  unfold fileStream
  (repeat' split) <;> simp
@[simp] theorem fileStream_timeBase (x : Filing) (p : Part) : (fileStream x p).timeBase = p.timeBase := by
  unfold fileStream
  (repeat' split) <;> simp
@[simp] theorem fileStream_engine (x : Filing) (p : Part) : (fileStream x p).engine = p.engine := by
  unfold fileStream
  (repeat' split) <;> simp
@[simp] theorem fileStream_sorter (x : Filing) (p : Part) : (fileStream x p).sorter = p.sorter := by
  unfold fileStream
  (repeat' split) <;> simp
@[simp] theorem fileStream_lanes (x : Filing) (p : Part) : (fileStream x p).lanes = p.lanes := by
  unfold fileStream
  (repeat' split) <;> simp
@[simp] theorem fileStream_store (x : Filing) (p : Part) : (fileStream x p).store = p.store := by
  unfold fileStream
  (repeat' split) <;> simp
@[simp] theorem fileStream_egress (x : Filing) (p : Part) : (fileStream x p).egress = p.egress := by
  unfold fileStream
  (repeat' split) <;> simp

@[simp] theorem sendFiling_clock (x : Filing) (p : Part) : (sendFiling x p).clock = p.clock := by
  unfold sendFiling
  split <;> simp
@[simp] theorem sendFiling_idleSpan (x : Filing) (p : Part) : (sendFiling x p).idleSpan = p.idleSpan := by
  unfold sendFiling
  split <;> simp
@[simp] theorem sendFiling_pins (x : Filing) (p : Part) : (sendFiling x p).pins = p.pins := by
  unfold sendFiling
  split <;> simp
@[simp] theorem sendFiling_straps (x : Filing) (p : Part) : (sendFiling x p).straps = p.straps := by
  unfold sendFiling
  split <;> simp
@[simp] theorem sendFiling_lastReset (x : Filing) (p : Part) : (sendFiling x p).lastReset = p.lastReset := by
  unfold sendFiling
  split <;> simp
@[simp] theorem sendFiling_portA (x : Filing) (p : Part) : (sendFiling x p).portA = p.portA := by
  unfold sendFiling
  split <;> simp
@[simp] theorem sendFiling_portB (x : Filing) (p : Part) : (sendFiling x p).portB = p.portB := by
  unfold sendFiling
  split <;> simp
@[simp] theorem sendFiling_timeBase (x : Filing) (p : Part) : (sendFiling x p).timeBase = p.timeBase := by
  unfold sendFiling
  split <;> simp
@[simp] theorem sendFiling_engine (x : Filing) (p : Part) : (sendFiling x p).engine = p.engine := by
  unfold sendFiling
  split <;> simp
@[simp] theorem sendFiling_sorter (x : Filing) (p : Part) : (sendFiling x p).sorter = p.sorter := by
  unfold sendFiling
  split <;> simp
@[simp] theorem sendFiling_lanes (x : Filing) (p : Part) : (sendFiling x p).lanes = p.lanes := by
  unfold sendFiling
  split <;> simp
@[simp] theorem sendFiling_store (x : Filing) (p : Part) : (sendFiling x p).store = p.store := by
  unfold sendFiling
  split <;> simp
@[simp] theorem sendFiling_egress (x : Filing) (p : Part) : (sendFiling x p).egress = p.egress := by
  unfold sendFiling
  split <;> simp

@[simp] theorem reached_clock (p : Part) : p.reached.clock = p.clock := by
  simp only [Part.reached, Part.live]
  (repeat' split) <;> simp
@[simp] theorem reached_idleSpan (p : Part) : p.reached.idleSpan = p.idleSpan := by
  simp only [Part.reached, Part.live]
  (repeat' split) <;> simp
@[simp] theorem reached_freeUses (p : Part) : p.reached.freeUses = p.freeUses := by
  simp only [Part.reached, Part.live]
  (repeat' split) <;> simp
@[simp] theorem reached_pins (p : Part) : p.reached.pins = p.pins := by
  simp only [Part.reached, Part.live]
  (repeat' split) <;> simp
@[simp] theorem reached_straps (p : Part) : p.reached.straps = p.straps := by
  simp only [Part.reached, Part.live]
  (repeat' split) <;> simp
@[simp] theorem reached_lastReset (p : Part) : p.reached.lastReset = p.lastReset := by
  simp only [Part.reached, Part.live]
  (repeat' split) <;> simp
@[simp] theorem reached_portA (p : Part) : p.reached.portA = p.portA := by
  simp only [Part.reached, Part.live]
  (repeat' split) <;> simp
@[simp] theorem reached_portB (p : Part) : p.reached.portB = p.portB := by
  simp only [Part.reached, Part.live]
  (repeat' split) <;> simp
@[simp] theorem reached_timeBase (p : Part) : p.reached.timeBase = p.timeBase := by
  simp only [Part.reached, Part.live]
  (repeat' split) <;> simp
@[simp] theorem reached_engine (p : Part) : p.reached.engine = p.engine := by
  simp only [Part.reached, Part.live]
  (repeat' split) <;> simp
@[simp] theorem reached_sorter (p : Part) : p.reached.sorter = p.sorter := by
  simp only [Part.reached, Part.live]
  (repeat' split) <;> simp
@[simp] theorem reached_lanes (p : Part) : p.reached.lanes = p.lanes := by
  simp only [Part.reached, Part.live]
  (repeat' split) <;> simp
@[simp] theorem reached_store (p : Part) : p.reached.store = p.store := by
  simp only [Part.reached, Part.live]
  (repeat' split) <;> simp
@[simp] theorem reached_egress (p : Part) : p.reached.egress = p.egress := by
  simp only [Part.reached, Part.live]
  (repeat' split) <;> simp

/-- With no filing on its way nothing reaches the Stream Table. -/
theorem reached_none {p : Part} (h : p.filing = none) : p.reached = p := by
  simp [Part.reached, Part.live, h]

/-- A filing on its way is gone once it has reached the Stream Table. -/
theorem reached_filing {p : Part} (h : p.pins.resetLow = false) : p.reached.filing = none := by
  simp only [Part.reached, Part.live]
  simp only [h, Bool.false_eq_true, if_false]
  split <;> simp_all

/-- With no filing on its way an event acts on the part as it is. -/
theorem event_eq {f : Part → Part} {s : State} (h : s.part.filing = none) :
    State.event f s = .next { s with part := f s.part } := by
  simp [State.event, reached_none h]

/-- A request row acts on the part with the executor started. -/
@[simp] theorem runRequest_eq (f : Part → Part) (s : State) :
    State.runRequest f s = .next { s with part := f s.part.started } := rfl

/-- The executor has nothing to start: the part stays. -/
theorem started_of_startNext {p : Part} (h : startNext p.control.queue = p.control.queue) : p.started = p := by
  simp only [Part.started, Part.live, Part.onControl, h]
  split <;> rfl

/-- Where an entry executes, the executor starts nothing. -/
theorem started_executing {p : Part} {e : RequestEntry} (h : executing p.control.queue = some e) : p.started = p :=
  started_of_startNext (by simp [startNext, h])

@[simp] theorem refDec_clock (i : Nat) (p : Part) : (refDec i p).clock = p.clock := by
  unfold refDec
  (repeat' split) <;> simp
@[simp] theorem refDec_idleSpan (i : Nat) (p : Part) : (refDec i p).idleSpan = p.idleSpan := by
  unfold refDec
  (repeat' split) <;> simp
@[simp] theorem refDec_freeUses (i : Nat) (p : Part) : (refDec i p).freeUses = p.freeUses := by
  unfold refDec
  (repeat' split) <;> simp
@[simp] theorem refDec_pins (i : Nat) (p : Part) : (refDec i p).pins = p.pins := by
  unfold refDec
  (repeat' split) <;> simp
@[simp] theorem refDec_straps (i : Nat) (p : Part) : (refDec i p).straps = p.straps := by
  unfold refDec
  (repeat' split) <;> simp
@[simp] theorem refDec_lastReset (i : Nat) (p : Part) : (refDec i p).lastReset = p.lastReset := by
  unfold refDec
  (repeat' split) <;> simp
@[simp] theorem refDec_filing (i : Nat) (p : Part) : (refDec i p).filing = p.filing := by
  unfold refDec
  (repeat' split) <;> simp
@[simp] theorem refDec_portA (i : Nat) (p : Part) : (refDec i p).portA = p.portA := by
  unfold refDec
  (repeat' split) <;> simp
@[simp] theorem refDec_portB (i : Nat) (p : Part) : (refDec i p).portB = p.portB := by
  unfold refDec
  (repeat' split) <;> simp
@[simp] theorem refDec_timeBase (i : Nat) (p : Part) : (refDec i p).timeBase = p.timeBase := by
  unfold refDec
  (repeat' split) <;> simp
@[simp] theorem refDec_engine (i : Nat) (p : Part) : (refDec i p).engine = p.engine := by
  unfold refDec
  (repeat' split) <;> simp
@[simp] theorem refDec_sorter (i : Nat) (p : Part) : (refDec i p).sorter = p.sorter := by
  unfold refDec
  (repeat' split) <;> simp
@[simp] theorem refDec_lanes (i : Nat) (p : Part) : (refDec i p).lanes = p.lanes := by
  unfold refDec
  (repeat' split) <;> simp
@[simp] theorem refDec_store (i : Nat) (p : Part) : (refDec i p).store = p.store := by
  unfold refDec
  (repeat' split) <;> simp
@[simp] theorem refDec_egress (i : Nat) (p : Part) : (refDec i p).egress = p.egress := by
  unfold refDec
  (repeat' split) <;> simp

@[simp] theorem refDecAll_clock (is : List Nat) (p : Part) : (refDecAll is p).clock = p.clock := by
  unfold refDecAll
  induction is generalizing p with
  | nil => rfl
  | cons i is ih => simp [ih]
@[simp] theorem refDecAll_idleSpan (is : List Nat) (p : Part) : (refDecAll is p).idleSpan = p.idleSpan := by
  unfold refDecAll
  induction is generalizing p with
  | nil => rfl
  | cons i is ih => simp [ih]
@[simp] theorem refDecAll_freeUses (is : List Nat) (p : Part) : (refDecAll is p).freeUses = p.freeUses := by
  unfold refDecAll
  induction is generalizing p with
  | nil => rfl
  | cons i is ih => simp [ih]
@[simp] theorem refDecAll_pins (is : List Nat) (p : Part) : (refDecAll is p).pins = p.pins := by
  unfold refDecAll
  induction is generalizing p with
  | nil => rfl
  | cons i is ih => simp [ih]
@[simp] theorem refDecAll_straps (is : List Nat) (p : Part) : (refDecAll is p).straps = p.straps := by
  unfold refDecAll
  induction is generalizing p with
  | nil => rfl
  | cons i is ih => simp [ih]
@[simp] theorem refDecAll_lastReset (is : List Nat) (p : Part) : (refDecAll is p).lastReset = p.lastReset := by
  unfold refDecAll
  induction is generalizing p with
  | nil => rfl
  | cons i is ih => simp [ih]
@[simp] theorem refDecAll_filing (is : List Nat) (p : Part) : (refDecAll is p).filing = p.filing := by
  unfold refDecAll
  induction is generalizing p with
  | nil => rfl
  | cons i is ih => simp [ih]
@[simp] theorem refDecAll_portA (is : List Nat) (p : Part) : (refDecAll is p).portA = p.portA := by
  unfold refDecAll
  induction is generalizing p with
  | nil => rfl
  | cons i is ih => simp [ih]
@[simp] theorem refDecAll_portB (is : List Nat) (p : Part) : (refDecAll is p).portB = p.portB := by
  unfold refDecAll
  induction is generalizing p with
  | nil => rfl
  | cons i is ih => simp [ih]
@[simp] theorem refDecAll_timeBase (is : List Nat) (p : Part) : (refDecAll is p).timeBase = p.timeBase := by
  unfold refDecAll
  induction is generalizing p with
  | nil => rfl
  | cons i is ih => simp [ih]
@[simp] theorem refDecAll_engine (is : List Nat) (p : Part) : (refDecAll is p).engine = p.engine := by
  unfold refDecAll
  induction is generalizing p with
  | nil => rfl
  | cons i is ih => simp [ih]
@[simp] theorem refDecAll_sorter (is : List Nat) (p : Part) : (refDecAll is p).sorter = p.sorter := by
  unfold refDecAll
  induction is generalizing p with
  | nil => rfl
  | cons i is ih => simp [ih]
@[simp] theorem refDecAll_lanes (is : List Nat) (p : Part) : (refDecAll is p).lanes = p.lanes := by
  unfold refDecAll
  induction is generalizing p with
  | nil => rfl
  | cons i is ih => simp [ih]
@[simp] theorem refDecAll_store (is : List Nat) (p : Part) : (refDecAll is p).store = p.store := by
  unfold refDecAll
  induction is generalizing p with
  | nil => rfl
  | cons i is ih => simp [ih]
@[simp] theorem refDecAll_egress (is : List Nat) (p : Part) : (refDecAll is p).egress = p.egress := by
  unfold refDecAll
  induction is generalizing p with
  | nil => rfl
  | cons i is ih => simp [ih]

@[simp] theorem reportMiss_clock (i n : Nat) (p : Part) : (reportMiss i n p).1.clock = p.clock := by
  unfold reportMiss
  dsimp only
  (repeat' split) <;> simp
@[simp] theorem reportMiss_idleSpan (i n : Nat) (p : Part) : (reportMiss i n p).1.idleSpan = p.idleSpan := by
  unfold reportMiss
  dsimp only
  (repeat' split) <;> simp
@[simp] theorem reportMiss_freeUses (i n : Nat) (p : Part) : (reportMiss i n p).1.freeUses = p.freeUses := by
  unfold reportMiss
  dsimp only
  (repeat' split) <;> simp
@[simp] theorem reportMiss_pins (i n : Nat) (p : Part) : (reportMiss i n p).1.pins = p.pins := by
  unfold reportMiss
  dsimp only
  (repeat' split) <;> simp
@[simp] theorem reportMiss_straps (i n : Nat) (p : Part) : (reportMiss i n p).1.straps = p.straps := by
  unfold reportMiss
  dsimp only
  (repeat' split) <;> simp
@[simp] theorem reportMiss_lastReset (i n : Nat) (p : Part) : (reportMiss i n p).1.lastReset = p.lastReset := by
  unfold reportMiss
  dsimp only
  (repeat' split) <;> simp
@[simp] theorem reportMiss_filing (i n : Nat) (p : Part) : (reportMiss i n p).1.filing = p.filing := by
  unfold reportMiss
  dsimp only
  (repeat' split) <;> simp
@[simp] theorem reportMiss_portA (i n : Nat) (p : Part) : (reportMiss i n p).1.portA = p.portA := by
  unfold reportMiss
  dsimp only
  (repeat' split) <;> simp
@[simp] theorem reportMiss_portB (i n : Nat) (p : Part) : (reportMiss i n p).1.portB = p.portB := by
  unfold reportMiss
  dsimp only
  (repeat' split) <;> simp
@[simp] theorem reportMiss_timeBase (i n : Nat) (p : Part) : (reportMiss i n p).1.timeBase = p.timeBase := by
  unfold reportMiss
  dsimp only
  (repeat' split) <;> simp
@[simp] theorem reportMiss_engine (i n : Nat) (p : Part) : (reportMiss i n p).1.engine = p.engine := by
  unfold reportMiss
  dsimp only
  (repeat' split) <;> simp
@[simp] theorem reportMiss_sorter (i n : Nat) (p : Part) : (reportMiss i n p).1.sorter = p.sorter := by
  unfold reportMiss
  dsimp only
  (repeat' split) <;> simp
@[simp] theorem reportMiss_lanes (i n : Nat) (p : Part) : (reportMiss i n p).1.lanes = p.lanes := by
  unfold reportMiss
  dsimp only
  (repeat' split) <;> simp
@[simp] theorem reportMiss_store (i n : Nat) (p : Part) : (reportMiss i n p).1.store = p.store := by
  unfold reportMiss
  dsimp only
  (repeat' split) <;> simp
@[simp] theorem reportMiss_egress (i n : Nat) (p : Part) : (reportMiss i n p).1.egress = p.egress := by
  unfold reportMiss
  dsimp only
  (repeat' split) <;> simp

@[simp] theorem sighting_clock (n : Nat) (l : LaneId) (own : Label) (p : Part) : (sighting n l own p).clock = p.clock := by
  unfold sighting
  (repeat' split) <;> simp
@[simp] theorem sighting_idleSpan (n : Nat) (l : LaneId) (own : Label) (p : Part) : (sighting n l own p).idleSpan = p.idleSpan := by
  unfold sighting
  (repeat' split) <;> simp
@[simp] theorem sighting_freeUses (n : Nat) (l : LaneId) (own : Label) (p : Part) : (sighting n l own p).freeUses = p.freeUses := by
  unfold sighting
  (repeat' split) <;> simp
@[simp] theorem sighting_pins (n : Nat) (l : LaneId) (own : Label) (p : Part) : (sighting n l own p).pins = p.pins := by
  unfold sighting
  (repeat' split) <;> simp
@[simp] theorem sighting_straps (n : Nat) (l : LaneId) (own : Label) (p : Part) : (sighting n l own p).straps = p.straps := by
  unfold sighting
  (repeat' split) <;> simp
@[simp] theorem sighting_lastReset (n : Nat) (l : LaneId) (own : Label) (p : Part) : (sighting n l own p).lastReset = p.lastReset := by
  unfold sighting
  (repeat' split) <;> simp
@[simp] theorem sighting_filing (n : Nat) (l : LaneId) (own : Label) (p : Part) : (sighting n l own p).filing = p.filing := by
  unfold sighting
  (repeat' split) <;> simp
@[simp] theorem sighting_portA (n : Nat) (l : LaneId) (own : Label) (p : Part) : (sighting n l own p).portA = p.portA := by
  unfold sighting
  (repeat' split) <;> simp
@[simp] theorem sighting_portB (n : Nat) (l : LaneId) (own : Label) (p : Part) : (sighting n l own p).portB = p.portB := by
  unfold sighting
  (repeat' split) <;> simp
@[simp] theorem sighting_timeBase (n : Nat) (l : LaneId) (own : Label) (p : Part) : (sighting n l own p).timeBase = p.timeBase := by
  unfold sighting
  (repeat' split) <;> simp
@[simp] theorem sighting_engine (n : Nat) (l : LaneId) (own : Label) (p : Part) : (sighting n l own p).engine = p.engine := by
  unfold sighting
  (repeat' split) <;> simp
@[simp] theorem sighting_sorter (n : Nat) (l : LaneId) (own : Label) (p : Part) : (sighting n l own p).sorter = p.sorter := by
  unfold sighting
  (repeat' split) <;> simp
@[simp] theorem sighting_lanes (n : Nat) (l : LaneId) (own : Label) (p : Part) : (sighting n l own p).lanes = p.lanes := by
  unfold sighting
  (repeat' split) <;> simp
@[simp] theorem sighting_store (n : Nat) (l : LaneId) (own : Label) (p : Part) : (sighting n l own p).store = p.store := by
  unfold sighting
  (repeat' split) <;> simp
@[simp] theorem sighting_egress (n : Nat) (l : LaneId) (own : Label) (p : Part) : (sighting n l own p).egress = p.egress := by
  unfold sighting
  (repeat' split) <;> simp

end Sys2Proof.Machine
end

