-- ==== Sys2Proof/Laws/EgressFrames.lean ====
section
/-! SUPPORT. What the operations of the Set Link leave unchanged. -/

namespace Sys2Proof.Machine

@[simp] theorem readMembers_clock (ms : List Member) (p : Part) : (readMembers ms p).1.clock = p.clock := by
  induction ms generalizing p with
  | nil => rfl
  | cons m ms ih => simp [readMembers, ih]
@[simp] theorem readMembers_idleSpan (ms : List Member) (p : Part) : (readMembers ms p).1.idleSpan = p.idleSpan := by
  induction ms generalizing p with
  | nil => rfl
  | cons m ms ih => simp [readMembers, ih]
@[simp] theorem readMembers_freeUses (ms : List Member) (p : Part) : (readMembers ms p).1.freeUses = p.freeUses := by
  induction ms generalizing p with
  | nil => rfl
  | cons m ms ih => simp [readMembers, ih]
@[simp] theorem readMembers_pins (ms : List Member) (p : Part) : (readMembers ms p).1.pins = p.pins := by
  induction ms generalizing p with
  | nil => rfl
  | cons m ms ih => simp [readMembers, ih]
@[simp] theorem readMembers_straps (ms : List Member) (p : Part) : (readMembers ms p).1.straps = p.straps := by
  induction ms generalizing p with
  | nil => rfl
  | cons m ms ih => simp [readMembers, ih]
@[simp] theorem readMembers_lastReset (ms : List Member) (p : Part) : (readMembers ms p).1.lastReset = p.lastReset := by
  induction ms generalizing p with
  | nil => rfl
  | cons m ms ih => simp [readMembers, ih]
@[simp] theorem readMembers_filing (ms : List Member) (p : Part) : (readMembers ms p).1.filing = p.filing := by
  induction ms generalizing p with
  | nil => rfl
  | cons m ms ih => simp [readMembers, ih]
@[simp] theorem readMembers_portA (ms : List Member) (p : Part) : (readMembers ms p).1.portA = p.portA := by
  induction ms generalizing p with
  | nil => rfl
  | cons m ms ih => simp [readMembers, ih]
@[simp] theorem readMembers_portB (ms : List Member) (p : Part) : (readMembers ms p).1.portB = p.portB := by
  induction ms generalizing p with
  | nil => rfl
  | cons m ms ih => simp [readMembers, ih]
@[simp] theorem readMembers_timeBase (ms : List Member) (p : Part) : (readMembers ms p).1.timeBase = p.timeBase := by
  induction ms generalizing p with
  | nil => rfl
  | cons m ms ih => simp [readMembers, ih]
@[simp] theorem readMembers_streams (ms : List Member) (p : Part) : (readMembers ms p).1.streams = p.streams := by
  induction ms generalizing p with
  | nil => rfl
  | cons m ms ih => simp [readMembers, ih]
@[simp] theorem readMembers_engine (ms : List Member) (p : Part) : (readMembers ms p).1.engine = p.engine := by
  induction ms generalizing p with
  | nil => rfl
  | cons m ms ih => simp [readMembers, ih]
@[simp] theorem readMembers_sorter (ms : List Member) (p : Part) : (readMembers ms p).1.sorter = p.sorter := by
  induction ms generalizing p with
  | nil => rfl
  | cons m ms ih => simp [readMembers, ih]
@[simp] theorem readMembers_lanes (ms : List Member) (p : Part) : (readMembers ms p).1.lanes = p.lanes := by
  induction ms generalizing p with
  | nil => rfl
  | cons m ms ih => simp [readMembers, ih]
@[simp] theorem readMembers_egress (ms : List Member) (p : Part) : (readMembers ms p).1.egress = p.egress := by
  induction ms generalizing p with
  | nil => rfl
  | cons m ms ih => simp [readMembers, ih]
@[simp] theorem readMembers_control (ms : List Member) (p : Part) : (readMembers ms p).1.control = p.control := by
  induction ms generalizing p with
  | nil => rfl
  | cons m ms ih => simp [readMembers, ih]
@[simp] theorem readMembers_attention (ms : List Member) (p : Part) : (readMembers ms p).1.attention = p.attention := by
  induction ms generalizing p with
  | nil => rfl
  | cons m ms ih => simp [readMembers, ih]

@[simp] theorem startSet_clock (r : SetRecord) (n : Nat) (p : Part) : (startSet r n p).clock = p.clock := by simp [startSet]
@[simp] theorem startSet_idleSpan (r : SetRecord) (n : Nat) (p : Part) : (startSet r n p).idleSpan = p.idleSpan := by simp [startSet]
@[simp] theorem startSet_freeUses (r : SetRecord) (n : Nat) (p : Part) : (startSet r n p).freeUses = p.freeUses := by simp [startSet]
@[simp] theorem startSet_pins (r : SetRecord) (n : Nat) (p : Part) : (startSet r n p).pins = p.pins := by simp [startSet]
@[simp] theorem startSet_straps (r : SetRecord) (n : Nat) (p : Part) : (startSet r n p).straps = p.straps := by simp [startSet]
@[simp] theorem startSet_lastReset (r : SetRecord) (n : Nat) (p : Part) : (startSet r n p).lastReset = p.lastReset := by simp [startSet]
@[simp] theorem startSet_filing (r : SetRecord) (n : Nat) (p : Part) : (startSet r n p).filing = p.filing := by simp [startSet]
@[simp] theorem startSet_portA (r : SetRecord) (n : Nat) (p : Part) : (startSet r n p).portA = p.portA := by simp [startSet]
@[simp] theorem startSet_portB (r : SetRecord) (n : Nat) (p : Part) : (startSet r n p).portB = p.portB := by simp [startSet]
@[simp] theorem startSet_timeBase (r : SetRecord) (n : Nat) (p : Part) : (startSet r n p).timeBase = p.timeBase := by simp [startSet]
@[simp] theorem startSet_streams (r : SetRecord) (n : Nat) (p : Part) : (startSet r n p).streams = p.streams := by simp [startSet]
@[simp] theorem startSet_engine (r : SetRecord) (n : Nat) (p : Part) : (startSet r n p).engine = p.engine := by simp [startSet]
@[simp] theorem startSet_sorter (r : SetRecord) (n : Nat) (p : Part) : (startSet r n p).sorter = p.sorter := by simp [startSet]
@[simp] theorem startSet_lanes (r : SetRecord) (n : Nat) (p : Part) : (startSet r n p).lanes = p.lanes := by simp [startSet]
@[simp] theorem startSet_control (r : SetRecord) (n : Nat) (p : Part) : (startSet r n p).control = p.control := by simp [startSet]
@[simp] theorem startSet_attention (r : SetRecord) (n : Nat) (p : Part) : (startSet r n p).attention = p.attention := by simp [startSet]

@[simp] theorem startStrag_clock (t : StragglerRecord) (n : Nat) (p : Part) : (startStrag t n p).clock = p.clock := by simp [startStrag]
@[simp] theorem startStrag_idleSpan (t : StragglerRecord) (n : Nat) (p : Part) : (startStrag t n p).idleSpan = p.idleSpan := by simp [startStrag]
@[simp] theorem startStrag_freeUses (t : StragglerRecord) (n : Nat) (p : Part) : (startStrag t n p).freeUses = p.freeUses := by simp [startStrag]
@[simp] theorem startStrag_pins (t : StragglerRecord) (n : Nat) (p : Part) : (startStrag t n p).pins = p.pins := by simp [startStrag]
@[simp] theorem startStrag_straps (t : StragglerRecord) (n : Nat) (p : Part) : (startStrag t n p).straps = p.straps := by simp [startStrag]
@[simp] theorem startStrag_lastReset (t : StragglerRecord) (n : Nat) (p : Part) : (startStrag t n p).lastReset = p.lastReset := by simp [startStrag]
@[simp] theorem startStrag_filing (t : StragglerRecord) (n : Nat) (p : Part) : (startStrag t n p).filing = p.filing := by simp [startStrag]
@[simp] theorem startStrag_portA (t : StragglerRecord) (n : Nat) (p : Part) : (startStrag t n p).portA = p.portA := by simp [startStrag]
@[simp] theorem startStrag_portB (t : StragglerRecord) (n : Nat) (p : Part) : (startStrag t n p).portB = p.portB := by simp [startStrag]
@[simp] theorem startStrag_timeBase (t : StragglerRecord) (n : Nat) (p : Part) : (startStrag t n p).timeBase = p.timeBase := by simp [startStrag]
@[simp] theorem startStrag_streams (t : StragglerRecord) (n : Nat) (p : Part) : (startStrag t n p).streams = p.streams := by simp [startStrag]
@[simp] theorem startStrag_engine (t : StragglerRecord) (n : Nat) (p : Part) : (startStrag t n p).engine = p.engine := by simp [startStrag]
@[simp] theorem startStrag_sorter (t : StragglerRecord) (n : Nat) (p : Part) : (startStrag t n p).sorter = p.sorter := by simp [startStrag]
@[simp] theorem startStrag_lanes (t : StragglerRecord) (n : Nat) (p : Part) : (startStrag t n p).lanes = p.lanes := by simp [startStrag]
@[simp] theorem startStrag_control (t : StragglerRecord) (n : Nat) (p : Part) : (startStrag t n p).control = p.control := by simp [startStrag]
@[simp] theorem startStrag_attention (t : StragglerRecord) (n : Nat) (p : Part) : (startStrag t n p).attention = p.attention := by simp [startStrag]

@[simp] theorem startRecord_clock (p : Part) : (startRecord p).clock = p.clock := by
  unfold startRecord
  (repeat' split) <;> simp
@[simp] theorem startRecord_idleSpan (p : Part) : (startRecord p).idleSpan = p.idleSpan := by
  unfold startRecord
  (repeat' split) <;> simp
@[simp] theorem startRecord_freeUses (p : Part) : (startRecord p).freeUses = p.freeUses := by
  unfold startRecord
  (repeat' split) <;> simp
@[simp] theorem startRecord_pins (p : Part) : (startRecord p).pins = p.pins := by
  unfold startRecord
  (repeat' split) <;> simp
@[simp] theorem startRecord_straps (p : Part) : (startRecord p).straps = p.straps := by
  unfold startRecord
  (repeat' split) <;> simp
@[simp] theorem startRecord_lastReset (p : Part) : (startRecord p).lastReset = p.lastReset := by
  unfold startRecord
  (repeat' split) <;> simp
@[simp] theorem startRecord_filing (p : Part) : (startRecord p).filing = p.filing := by
  unfold startRecord
  (repeat' split) <;> simp
@[simp] theorem startRecord_portA (p : Part) : (startRecord p).portA = p.portA := by
  unfold startRecord
  (repeat' split) <;> simp
@[simp] theorem startRecord_portB (p : Part) : (startRecord p).portB = p.portB := by
  unfold startRecord
  (repeat' split) <;> simp
@[simp] theorem startRecord_timeBase (p : Part) : (startRecord p).timeBase = p.timeBase := by
  unfold startRecord
  (repeat' split) <;> simp
@[simp] theorem startRecord_streams (p : Part) : (startRecord p).streams = p.streams := by
  unfold startRecord
  (repeat' split) <;> simp
@[simp] theorem startRecord_engine (p : Part) : (startRecord p).engine = p.engine := by
  unfold startRecord
  (repeat' split) <;> simp
@[simp] theorem startRecord_sorter (p : Part) : (startRecord p).sorter = p.sorter := by
  unfold startRecord
  (repeat' split) <;> simp
@[simp] theorem startRecord_lanes (p : Part) : (startRecord p).lanes = p.lanes := by
  unfold startRecord
  (repeat' split) <;> simp
@[simp] theorem startRecord_control (p : Part) : (startRecord p).control = p.control := by
  unfold startRecord
  (repeat' split) <;> simp
@[simp] theorem startRecord_attention (p : Part) : (startRecord p).attention = p.attention := by
  unfold startRecord
  (repeat' split) <;> simp

@[simp] theorem endSet_clock (r : SetRecord) (p : Part) : (endSet r p).clock = p.clock := by simp [endSet]
@[simp] theorem endSet_idleSpan (r : SetRecord) (p : Part) : (endSet r p).idleSpan = p.idleSpan := by simp [endSet]
@[simp] theorem endSet_freeUses (r : SetRecord) (p : Part) : (endSet r p).freeUses = p.freeUses := by simp [endSet]
@[simp] theorem endSet_pins (r : SetRecord) (p : Part) : (endSet r p).pins = p.pins := by simp [endSet]
@[simp] theorem endSet_straps (r : SetRecord) (p : Part) : (endSet r p).straps = p.straps := by simp [endSet]
@[simp] theorem endSet_lastReset (r : SetRecord) (p : Part) : (endSet r p).lastReset = p.lastReset := by simp [endSet]
@[simp] theorem endSet_filing (r : SetRecord) (p : Part) : (endSet r p).filing = p.filing := by simp [endSet]
@[simp] theorem endSet_portA (r : SetRecord) (p : Part) : (endSet r p).portA = p.portA := by simp [endSet]
@[simp] theorem endSet_portB (r : SetRecord) (p : Part) : (endSet r p).portB = p.portB := by simp [endSet]
@[simp] theorem endSet_timeBase (r : SetRecord) (p : Part) : (endSet r p).timeBase = p.timeBase := by simp [endSet]
@[simp] theorem endSet_engine (r : SetRecord) (p : Part) : (endSet r p).engine = p.engine := by simp [endSet]
@[simp] theorem endSet_sorter (r : SetRecord) (p : Part) : (endSet r p).sorter = p.sorter := by simp [endSet]
@[simp] theorem endSet_lanes (r : SetRecord) (p : Part) : (endSet r p).lanes = p.lanes := by simp [endSet]

@[simp] theorem endStrag_clock (t : StragglerRecord) (p : Part) : (endStrag t p).clock = p.clock := by simp [endStrag]
@[simp] theorem endStrag_idleSpan (t : StragglerRecord) (p : Part) : (endStrag t p).idleSpan = p.idleSpan := by simp [endStrag]
@[simp] theorem endStrag_freeUses (t : StragglerRecord) (p : Part) : (endStrag t p).freeUses = p.freeUses := by simp [endStrag]
@[simp] theorem endStrag_pins (t : StragglerRecord) (p : Part) : (endStrag t p).pins = p.pins := by simp [endStrag]
@[simp] theorem endStrag_straps (t : StragglerRecord) (p : Part) : (endStrag t p).straps = p.straps := by simp [endStrag]
@[simp] theorem endStrag_lastReset (t : StragglerRecord) (p : Part) : (endStrag t p).lastReset = p.lastReset := by simp [endStrag]
@[simp] theorem endStrag_filing (t : StragglerRecord) (p : Part) : (endStrag t p).filing = p.filing := by simp [endStrag]
@[simp] theorem endStrag_portA (t : StragglerRecord) (p : Part) : (endStrag t p).portA = p.portA := by simp [endStrag]
@[simp] theorem endStrag_portB (t : StragglerRecord) (p : Part) : (endStrag t p).portB = p.portB := by simp [endStrag]
@[simp] theorem endStrag_timeBase (t : StragglerRecord) (p : Part) : (endStrag t p).timeBase = p.timeBase := by simp [endStrag]
@[simp] theorem endStrag_engine (t : StragglerRecord) (p : Part) : (endStrag t p).engine = p.engine := by simp [endStrag]
@[simp] theorem endStrag_sorter (t : StragglerRecord) (p : Part) : (endStrag t p).sorter = p.sorter := by simp [endStrag]
@[simp] theorem endStrag_lanes (t : StragglerRecord) (p : Part) : (endStrag t p).lanes = p.lanes := by simp [endStrag]

@[simp] theorem overridePause_clock (p : Part) : (overridePause p).clock = p.clock := by simp [overridePause]
@[simp] theorem overridePause_idleSpan (p : Part) : (overridePause p).idleSpan = p.idleSpan := by simp [overridePause]
@[simp] theorem overridePause_freeUses (p : Part) : (overridePause p).freeUses = p.freeUses := by simp [overridePause]
@[simp] theorem overridePause_pins (p : Part) : (overridePause p).pins = p.pins := by simp [overridePause]
@[simp] theorem overridePause_straps (p : Part) : (overridePause p).straps = p.straps := by simp [overridePause]
@[simp] theorem overridePause_lastReset (p : Part) : (overridePause p).lastReset = p.lastReset := by simp [overridePause]
@[simp] theorem overridePause_filing (p : Part) : (overridePause p).filing = p.filing := by simp [overridePause]
@[simp] theorem overridePause_portA (p : Part) : (overridePause p).portA = p.portA := by simp [overridePause]
@[simp] theorem overridePause_portB (p : Part) : (overridePause p).portB = p.portB := by simp [overridePause]
@[simp] theorem overridePause_timeBase (p : Part) : (overridePause p).timeBase = p.timeBase := by simp [overridePause]
@[simp] theorem overridePause_streams (p : Part) : (overridePause p).streams = p.streams := by simp [overridePause]
@[simp] theorem overridePause_engine (p : Part) : (overridePause p).engine = p.engine := by simp [overridePause]
@[simp] theorem overridePause_sorter (p : Part) : (overridePause p).sorter = p.sorter := by simp [overridePause]
@[simp] theorem overridePause_lanes (p : Part) : (overridePause p).lanes = p.lanes := by simp [overridePause]

@[simp] theorem stragglerOverflow_clock (p : Part) : (stragglerOverflow p).clock = p.clock := by simp [stragglerOverflow]
@[simp] theorem stragglerOverflow_idleSpan (p : Part) : (stragglerOverflow p).idleSpan = p.idleSpan := by simp [stragglerOverflow]
@[simp] theorem stragglerOverflow_freeUses (p : Part) : (stragglerOverflow p).freeUses = p.freeUses := by simp [stragglerOverflow]
@[simp] theorem stragglerOverflow_pins (p : Part) : (stragglerOverflow p).pins = p.pins := by simp [stragglerOverflow]
@[simp] theorem stragglerOverflow_straps (p : Part) : (stragglerOverflow p).straps = p.straps := by simp [stragglerOverflow]
@[simp] theorem stragglerOverflow_lastReset (p : Part) : (stragglerOverflow p).lastReset = p.lastReset := by simp [stragglerOverflow]
@[simp] theorem stragglerOverflow_filing (p : Part) : (stragglerOverflow p).filing = p.filing := by simp [stragglerOverflow]
@[simp] theorem stragglerOverflow_portA (p : Part) : (stragglerOverflow p).portA = p.portA := by simp [stragglerOverflow]
@[simp] theorem stragglerOverflow_portB (p : Part) : (stragglerOverflow p).portB = p.portB := by simp [stragglerOverflow]
@[simp] theorem stragglerOverflow_timeBase (p : Part) : (stragglerOverflow p).timeBase = p.timeBase := by simp [stragglerOverflow]
@[simp] theorem stragglerOverflow_streams (p : Part) : (stragglerOverflow p).streams = p.streams := by simp [stragglerOverflow]
@[simp] theorem stragglerOverflow_engine (p : Part) : (stragglerOverflow p).engine = p.engine := by simp [stragglerOverflow]
@[simp] theorem stragglerOverflow_sorter (p : Part) : (stragglerOverflow p).sorter = p.sorter := by simp [stragglerOverflow]
@[simp] theorem stragglerOverflow_lanes (p : Part) : (stragglerOverflow p).lanes = p.lanes := by simp [stragglerOverflow]
@[simp] theorem stragglerOverflow_store (p : Part) : (stragglerOverflow p).store = p.store := by simp [stragglerOverflow]

end Sys2Proof.Machine
end

