-- ==== Sys2Proof/Laws/EpochFrames.lean ====
section
/-! SUPPORT. What the operations of the Epoch Table leave unchanged. -/

namespace Sys2Proof.Machine

@[simp] theorem putEpoch_clock (e : Epoch) (p : Part) : (Part.putEpoch e p).clock = p.clock := by simp [Part.putEpoch]
@[simp] theorem putEpoch_idleSpan (e : Epoch) (p : Part) : (Part.putEpoch e p).idleSpan = p.idleSpan := by simp [Part.putEpoch]
@[simp] theorem putEpoch_freeUses (e : Epoch) (p : Part) : (Part.putEpoch e p).freeUses = p.freeUses := by simp [Part.putEpoch]
@[simp] theorem putEpoch_pins (e : Epoch) (p : Part) : (Part.putEpoch e p).pins = p.pins := by simp [Part.putEpoch]
@[simp] theorem putEpoch_straps (e : Epoch) (p : Part) : (Part.putEpoch e p).straps = p.straps := by simp [Part.putEpoch]
@[simp] theorem putEpoch_lastReset (e : Epoch) (p : Part) : (Part.putEpoch e p).lastReset = p.lastReset := by simp [Part.putEpoch]
@[simp] theorem putEpoch_filing (e : Epoch) (p : Part) : (Part.putEpoch e p).filing = p.filing := by simp [Part.putEpoch]
@[simp] theorem putEpoch_portA (e : Epoch) (p : Part) : (Part.putEpoch e p).portA = p.portA := by simp [Part.putEpoch]
@[simp] theorem putEpoch_portB (e : Epoch) (p : Part) : (Part.putEpoch e p).portB = p.portB := by simp [Part.putEpoch]
@[simp] theorem putEpoch_timeBase (e : Epoch) (p : Part) : (Part.putEpoch e p).timeBase = p.timeBase := by simp [Part.putEpoch]
@[simp] theorem putEpoch_streams (e : Epoch) (p : Part) : (Part.putEpoch e p).streams = p.streams := by simp [Part.putEpoch]
@[simp] theorem putEpoch_sorter (e : Epoch) (p : Part) : (Part.putEpoch e p).sorter = p.sorter := by simp [Part.putEpoch]
@[simp] theorem putEpoch_lanes (e : Epoch) (p : Part) : (Part.putEpoch e p).lanes = p.lanes := by simp [Part.putEpoch]
@[simp] theorem putEpoch_store (e : Epoch) (p : Part) : (Part.putEpoch e p).store = p.store := by simp [Part.putEpoch]
@[simp] theorem putEpoch_egress (e : Epoch) (p : Part) : (Part.putEpoch e p).egress = p.egress := by simp [Part.putEpoch]
@[simp] theorem putEpoch_control (e : Epoch) (p : Part) : (Part.putEpoch e p).control = p.control := by simp [Part.putEpoch]
@[simp] theorem putEpoch_attention (e : Epoch) (p : Part) : (Part.putEpoch e p).attention = p.attention := by simp [Part.putEpoch]

@[simp] theorem suppressOldest_clock (e : Epoch) (p : Part) : (suppressOldest e p).clock = p.clock := by simp [suppressOldest]
@[simp] theorem suppressOldest_idleSpan (e : Epoch) (p : Part) : (suppressOldest e p).idleSpan = p.idleSpan := by simp [suppressOldest]
@[simp] theorem suppressOldest_freeUses (e : Epoch) (p : Part) : (suppressOldest e p).freeUses = p.freeUses := by simp [suppressOldest]
@[simp] theorem suppressOldest_pins (e : Epoch) (p : Part) : (suppressOldest e p).pins = p.pins := by simp [suppressOldest]
@[simp] theorem suppressOldest_straps (e : Epoch) (p : Part) : (suppressOldest e p).straps = p.straps := by simp [suppressOldest]
@[simp] theorem suppressOldest_lastReset (e : Epoch) (p : Part) : (suppressOldest e p).lastReset = p.lastReset := by simp [suppressOldest]
@[simp] theorem suppressOldest_filing (e : Epoch) (p : Part) : (suppressOldest e p).filing = p.filing := by simp [suppressOldest]
@[simp] theorem suppressOldest_portA (e : Epoch) (p : Part) : (suppressOldest e p).portA = p.portA := by simp [suppressOldest]
@[simp] theorem suppressOldest_portB (e : Epoch) (p : Part) : (suppressOldest e p).portB = p.portB := by simp [suppressOldest]
@[simp] theorem suppressOldest_timeBase (e : Epoch) (p : Part) : (suppressOldest e p).timeBase = p.timeBase := by simp [suppressOldest]
@[simp] theorem suppressOldest_streams (e : Epoch) (p : Part) : (suppressOldest e p).streams = p.streams := by simp [suppressOldest]
@[simp] theorem suppressOldest_sorter (e : Epoch) (p : Part) : (suppressOldest e p).sorter = p.sorter := by simp [suppressOldest]
@[simp] theorem suppressOldest_lanes (e : Epoch) (p : Part) : (suppressOldest e p).lanes = p.lanes := by simp [suppressOldest]
@[simp] theorem suppressOldest_store (e : Epoch) (p : Part) : (suppressOldest e p).store = p.store := by simp [suppressOldest]
@[simp] theorem suppressOldest_egress (e : Epoch) (p : Part) : (suppressOldest e p).egress = p.egress := by simp [suppressOldest]
@[simp] theorem suppressOldest_control (e : Epoch) (p : Part) : (suppressOldest e p).control = p.control := by simp [suppressOldest]
@[simp] theorem suppressOldest_attention (e : Epoch) (p : Part) : (suppressOldest e p).attention = p.attention := by simp [suppressOldest]

@[simp] theorem releaseOldest_clock (h : Leaving) (e : Epoch) (p : Part) : (releaseOldest h e p).clock = p.clock := by simp [releaseOldest]
@[simp] theorem releaseOldest_idleSpan (h : Leaving) (e : Epoch) (p : Part) : (releaseOldest h e p).idleSpan = p.idleSpan := by simp [releaseOldest]
@[simp] theorem releaseOldest_freeUses (h : Leaving) (e : Epoch) (p : Part) : (releaseOldest h e p).freeUses = p.freeUses := by simp [releaseOldest]
@[simp] theorem releaseOldest_pins (h : Leaving) (e : Epoch) (p : Part) : (releaseOldest h e p).pins = p.pins := by simp [releaseOldest]
@[simp] theorem releaseOldest_straps (h : Leaving) (e : Epoch) (p : Part) : (releaseOldest h e p).straps = p.straps := by simp [releaseOldest]
@[simp] theorem releaseOldest_lastReset (h : Leaving) (e : Epoch) (p : Part) : (releaseOldest h e p).lastReset = p.lastReset := by simp [releaseOldest]
@[simp] theorem releaseOldest_filing (h : Leaving) (e : Epoch) (p : Part) : (releaseOldest h e p).filing = p.filing := by simp [releaseOldest]
@[simp] theorem releaseOldest_portA (h : Leaving) (e : Epoch) (p : Part) : (releaseOldest h e p).portA = p.portA := by simp [releaseOldest]
@[simp] theorem releaseOldest_portB (h : Leaving) (e : Epoch) (p : Part) : (releaseOldest h e p).portB = p.portB := by simp [releaseOldest]
@[simp] theorem releaseOldest_timeBase (h : Leaving) (e : Epoch) (p : Part) : (releaseOldest h e p).timeBase = p.timeBase := by simp [releaseOldest]
@[simp] theorem releaseOldest_streams (h : Leaving) (e : Epoch) (p : Part) : (releaseOldest h e p).streams = p.streams := by simp [releaseOldest]
@[simp] theorem releaseOldest_sorter (h : Leaving) (e : Epoch) (p : Part) : (releaseOldest h e p).sorter = p.sorter := by simp [releaseOldest]
@[simp] theorem releaseOldest_lanes (h : Leaving) (e : Epoch) (p : Part) : (releaseOldest h e p).lanes = p.lanes := by simp [releaseOldest]
@[simp] theorem releaseOldest_control (h : Leaving) (e : Epoch) (p : Part) : (releaseOldest h e p).control = p.control := by simp [releaseOldest]
@[simp] theorem releaseOldest_attention (h : Leaving) (e : Epoch) (p : Part) : (releaseOldest h e p).attention = p.attention := by simp [releaseOldest]

@[simp] theorem dropOldest_clock (h : Leaving) (e : Epoch) (p : Part) : (dropOldest h e p).clock = p.clock := by simp [dropOldest]
@[simp] theorem dropOldest_idleSpan (h : Leaving) (e : Epoch) (p : Part) : (dropOldest h e p).idleSpan = p.idleSpan := by simp [dropOldest]
@[simp] theorem dropOldest_freeUses (h : Leaving) (e : Epoch) (p : Part) : (dropOldest h e p).freeUses = p.freeUses := by simp [dropOldest]
@[simp] theorem dropOldest_pins (h : Leaving) (e : Epoch) (p : Part) : (dropOldest h e p).pins = p.pins := by simp [dropOldest]
@[simp] theorem dropOldest_straps (h : Leaving) (e : Epoch) (p : Part) : (dropOldest h e p).straps = p.straps := by simp [dropOldest]
@[simp] theorem dropOldest_lastReset (h : Leaving) (e : Epoch) (p : Part) : (dropOldest h e p).lastReset = p.lastReset := by simp [dropOldest]
@[simp] theorem dropOldest_filing (h : Leaving) (e : Epoch) (p : Part) : (dropOldest h e p).filing = p.filing := by simp [dropOldest]
@[simp] theorem dropOldest_portA (h : Leaving) (e : Epoch) (p : Part) : (dropOldest h e p).portA = p.portA := by simp [dropOldest]
@[simp] theorem dropOldest_portB (h : Leaving) (e : Epoch) (p : Part) : (dropOldest h e p).portB = p.portB := by simp [dropOldest]
@[simp] theorem dropOldest_timeBase (h : Leaving) (e : Epoch) (p : Part) : (dropOldest h e p).timeBase = p.timeBase := by simp [dropOldest]
@[simp] theorem dropOldest_sorter (h : Leaving) (e : Epoch) (p : Part) : (dropOldest h e p).sorter = p.sorter := by simp [dropOldest]
@[simp] theorem dropOldest_lanes (h : Leaving) (e : Epoch) (p : Part) : (dropOldest h e p).lanes = p.lanes := by simp [dropOldest]
@[simp] theorem dropOldest_egress (h : Leaving) (e : Epoch) (p : Part) : (dropOldest h e p).egress = p.egress := by simp [dropOldest]

@[simp] theorem releaseRun_clock (n : Nat) (p : Part) : (releaseRun n p).clock = p.clock := by
  induction n generalizing p with
  | zero => rfl
  | succ n ih =>
    unfold releaseRun
    (repeat' split) <;> simp [ih]
@[simp] theorem releaseRun_idleSpan (n : Nat) (p : Part) : (releaseRun n p).idleSpan = p.idleSpan := by
  induction n generalizing p with
  | zero => rfl
  | succ n ih =>
    unfold releaseRun
    (repeat' split) <;> simp [ih]
@[simp] theorem releaseRun_freeUses (n : Nat) (p : Part) : (releaseRun n p).freeUses = p.freeUses := by
  induction n generalizing p with
  | zero => rfl
  | succ n ih =>
    unfold releaseRun
    (repeat' split) <;> simp [ih]
@[simp] theorem releaseRun_pins (n : Nat) (p : Part) : (releaseRun n p).pins = p.pins := by
  induction n generalizing p with
  | zero => rfl
  | succ n ih =>
    unfold releaseRun
    (repeat' split) <;> simp [ih]
@[simp] theorem releaseRun_straps (n : Nat) (p : Part) : (releaseRun n p).straps = p.straps := by
  induction n generalizing p with
  | zero => rfl
  | succ n ih =>
    unfold releaseRun
    (repeat' split) <;> simp [ih]
@[simp] theorem releaseRun_lastReset (n : Nat) (p : Part) : (releaseRun n p).lastReset = p.lastReset := by
  induction n generalizing p with
  | zero => rfl
  | succ n ih =>
    unfold releaseRun
    (repeat' split) <;> simp [ih]
@[simp] theorem releaseRun_filing (n : Nat) (p : Part) : (releaseRun n p).filing = p.filing := by
  induction n generalizing p with
  | zero => rfl
  | succ n ih =>
    unfold releaseRun
    (repeat' split) <;> simp [ih]
@[simp] theorem releaseRun_portA (n : Nat) (p : Part) : (releaseRun n p).portA = p.portA := by
  induction n generalizing p with
  | zero => rfl
  | succ n ih =>
    unfold releaseRun
    (repeat' split) <;> simp [ih]
@[simp] theorem releaseRun_portB (n : Nat) (p : Part) : (releaseRun n p).portB = p.portB := by
  induction n generalizing p with
  | zero => rfl
  | succ n ih =>
    unfold releaseRun
    (repeat' split) <;> simp [ih]
@[simp] theorem releaseRun_timeBase (n : Nat) (p : Part) : (releaseRun n p).timeBase = p.timeBase := by
  induction n generalizing p with
  | zero => rfl
  | succ n ih =>
    unfold releaseRun
    (repeat' split) <;> simp [ih]
@[simp] theorem releaseRun_streams (n : Nat) (p : Part) : (releaseRun n p).streams = p.streams := by
  induction n generalizing p with
  | zero => rfl
  | succ n ih =>
    unfold releaseRun
    (repeat' split) <;> simp [ih]
@[simp] theorem releaseRun_sorter (n : Nat) (p : Part) : (releaseRun n p).sorter = p.sorter := by
  induction n generalizing p with
  | zero => rfl
  | succ n ih =>
    unfold releaseRun
    (repeat' split) <;> simp [ih]
@[simp] theorem releaseRun_lanes (n : Nat) (p : Part) : (releaseRun n p).lanes = p.lanes := by
  induction n generalizing p with
  | zero => rfl
  | succ n ih =>
    unfold releaseRun
    (repeat' split) <;> simp [ih]
@[simp] theorem releaseRun_control (n : Nat) (p : Part) : (releaseRun n p).control = p.control := by
  induction n generalizing p with
  | zero => rfl
  | succ n ih =>
    unfold releaseRun
    (repeat' split) <;> simp [ih]
@[simp] theorem releaseRun_attention (n : Nat) (p : Part) : (releaseRun n p).attention = p.attention := by
  induction n generalizing p with
  | zero => rfl
  | succ n ih =>
    unfold releaseRun
    (repeat' split) <;> simp [ih]

@[simp] theorem attemptRelease_clock (p : Part) : (attemptRelease p).clock = p.clock := by simp [attemptRelease]
@[simp] theorem attemptRelease_idleSpan (p : Part) : (attemptRelease p).idleSpan = p.idleSpan := by simp [attemptRelease]
@[simp] theorem attemptRelease_freeUses (p : Part) : (attemptRelease p).freeUses = p.freeUses := by simp [attemptRelease]
@[simp] theorem attemptRelease_pins (p : Part) : (attemptRelease p).pins = p.pins := by simp [attemptRelease]
@[simp] theorem attemptRelease_straps (p : Part) : (attemptRelease p).straps = p.straps := by simp [attemptRelease]
@[simp] theorem attemptRelease_lastReset (p : Part) : (attemptRelease p).lastReset = p.lastReset := by simp [attemptRelease]
@[simp] theorem attemptRelease_filing (p : Part) : (attemptRelease p).filing = p.filing := by simp [attemptRelease]
@[simp] theorem attemptRelease_portA (p : Part) : (attemptRelease p).portA = p.portA := by simp [attemptRelease]
@[simp] theorem attemptRelease_portB (p : Part) : (attemptRelease p).portB = p.portB := by simp [attemptRelease]
@[simp] theorem attemptRelease_timeBase (p : Part) : (attemptRelease p).timeBase = p.timeBase := by simp [attemptRelease]
@[simp] theorem attemptRelease_streams (p : Part) : (attemptRelease p).streams = p.streams := by simp [attemptRelease]
@[simp] theorem attemptRelease_sorter (p : Part) : (attemptRelease p).sorter = p.sorter := by simp [attemptRelease]
@[simp] theorem attemptRelease_lanes (p : Part) : (attemptRelease p).lanes = p.lanes := by simp [attemptRelease]
@[simp] theorem attemptRelease_control (p : Part) : (attemptRelease p).control = p.control := by simp [attemptRelease]
@[simp] theorem attemptRelease_attention (p : Part) : (attemptRelease p).attention = p.attention := by simp [attemptRelease]

@[simp] theorem emptyOldest_clock (h : Leaving) (e : Epoch) (x : Part × Tally) : (emptyOldest h e x).1.clock = x.1.clock := by
  unfold emptyOldest
  (repeat' split) <;> simp
@[simp] theorem emptyOldest_idleSpan (h : Leaving) (e : Epoch) (x : Part × Tally) : (emptyOldest h e x).1.idleSpan = x.1.idleSpan := by
  unfold emptyOldest
  (repeat' split) <;> simp
@[simp] theorem emptyOldest_freeUses (h : Leaving) (e : Epoch) (x : Part × Tally) : (emptyOldest h e x).1.freeUses = x.1.freeUses := by
  unfold emptyOldest
  (repeat' split) <;> simp
@[simp] theorem emptyOldest_pins (h : Leaving) (e : Epoch) (x : Part × Tally) : (emptyOldest h e x).1.pins = x.1.pins := by
  unfold emptyOldest
  (repeat' split) <;> simp
@[simp] theorem emptyOldest_straps (h : Leaving) (e : Epoch) (x : Part × Tally) : (emptyOldest h e x).1.straps = x.1.straps := by
  unfold emptyOldest
  (repeat' split) <;> simp
@[simp] theorem emptyOldest_lastReset (h : Leaving) (e : Epoch) (x : Part × Tally) : (emptyOldest h e x).1.lastReset = x.1.lastReset := by
  unfold emptyOldest
  (repeat' split) <;> simp
@[simp] theorem emptyOldest_filing (h : Leaving) (e : Epoch) (x : Part × Tally) : (emptyOldest h e x).1.filing = x.1.filing := by
  unfold emptyOldest
  (repeat' split) <;> simp
@[simp] theorem emptyOldest_portA (h : Leaving) (e : Epoch) (x : Part × Tally) : (emptyOldest h e x).1.portA = x.1.portA := by
  unfold emptyOldest
  (repeat' split) <;> simp
@[simp] theorem emptyOldest_portB (h : Leaving) (e : Epoch) (x : Part × Tally) : (emptyOldest h e x).1.portB = x.1.portB := by
  unfold emptyOldest
  (repeat' split) <;> simp
@[simp] theorem emptyOldest_timeBase (h : Leaving) (e : Epoch) (x : Part × Tally) : (emptyOldest h e x).1.timeBase = x.1.timeBase := by
  unfold emptyOldest
  (repeat' split) <;> simp
@[simp] theorem emptyOldest_sorter (h : Leaving) (e : Epoch) (x : Part × Tally) : (emptyOldest h e x).1.sorter = x.1.sorter := by
  unfold emptyOldest
  (repeat' split) <;> simp
@[simp] theorem emptyOldest_lanes (h : Leaving) (e : Epoch) (x : Part × Tally) : (emptyOldest h e x).1.lanes = x.1.lanes := by
  unfold emptyOldest
  (repeat' split) <;> simp

@[simp] theorem emptyEntries_clock (h : Leaving) (es : List Epoch) (x : Part × Tally) : (emptyEntries h es x).1.clock = x.1.clock := by
  unfold emptyEntries
  induction es generalizing x with
  | nil => rfl
  | cons e es ih => simp [ih]
@[simp] theorem emptyEntries_idleSpan (h : Leaving) (es : List Epoch) (x : Part × Tally) : (emptyEntries h es x).1.idleSpan = x.1.idleSpan := by
  unfold emptyEntries
  induction es generalizing x with
  | nil => rfl
  | cons e es ih => simp [ih]
@[simp] theorem emptyEntries_freeUses (h : Leaving) (es : List Epoch) (x : Part × Tally) : (emptyEntries h es x).1.freeUses = x.1.freeUses := by
  unfold emptyEntries
  induction es generalizing x with
  | nil => rfl
  | cons e es ih => simp [ih]
@[simp] theorem emptyEntries_pins (h : Leaving) (es : List Epoch) (x : Part × Tally) : (emptyEntries h es x).1.pins = x.1.pins := by
  unfold emptyEntries
  induction es generalizing x with
  | nil => rfl
  | cons e es ih => simp [ih]
@[simp] theorem emptyEntries_straps (h : Leaving) (es : List Epoch) (x : Part × Tally) : (emptyEntries h es x).1.straps = x.1.straps := by
  unfold emptyEntries
  induction es generalizing x with
  | nil => rfl
  | cons e es ih => simp [ih]
@[simp] theorem emptyEntries_lastReset (h : Leaving) (es : List Epoch) (x : Part × Tally) : (emptyEntries h es x).1.lastReset = x.1.lastReset := by
  unfold emptyEntries
  induction es generalizing x with
  | nil => rfl
  | cons e es ih => simp [ih]
@[simp] theorem emptyEntries_filing (h : Leaving) (es : List Epoch) (x : Part × Tally) : (emptyEntries h es x).1.filing = x.1.filing := by
  unfold emptyEntries
  induction es generalizing x with
  | nil => rfl
  | cons e es ih => simp [ih]
@[simp] theorem emptyEntries_portA (h : Leaving) (es : List Epoch) (x : Part × Tally) : (emptyEntries h es x).1.portA = x.1.portA := by
  unfold emptyEntries
  induction es generalizing x with
  | nil => rfl
  | cons e es ih => simp [ih]
@[simp] theorem emptyEntries_portB (h : Leaving) (es : List Epoch) (x : Part × Tally) : (emptyEntries h es x).1.portB = x.1.portB := by
  unfold emptyEntries
  induction es generalizing x with
  | nil => rfl
  | cons e es ih => simp [ih]
@[simp] theorem emptyEntries_timeBase (h : Leaving) (es : List Epoch) (x : Part × Tally) : (emptyEntries h es x).1.timeBase = x.1.timeBase := by
  unfold emptyEntries
  induction es generalizing x with
  | nil => rfl
  | cons e es ih => simp [ih]
@[simp] theorem emptyEntries_sorter (h : Leaving) (es : List Epoch) (x : Part × Tally) : (emptyEntries h es x).1.sorter = x.1.sorter := by
  unfold emptyEntries
  induction es generalizing x with
  | nil => rfl
  | cons e es ih => simp [ih]
@[simp] theorem emptyEntries_lanes (h : Leaving) (es : List Epoch) (x : Part × Tally) : (emptyEntries h es x).1.lanes = x.1.lanes := by
  unfold emptyEntries
  induction es generalizing x with
  | nil => rfl
  | cons e es ih => simp [ih]

@[simp] theorem doWork_clock (w : Work) (p : Part) : (doWork w p).1.clock = p.clock := by
  unfold doWork
  dsimp only
  (repeat' split) <;> simp
@[simp] theorem doWork_idleSpan (w : Work) (p : Part) : (doWork w p).1.idleSpan = p.idleSpan := by
  unfold doWork
  dsimp only
  (repeat' split) <;> simp
@[simp] theorem doWork_freeUses (w : Work) (p : Part) : (doWork w p).1.freeUses = p.freeUses := by
  unfold doWork
  dsimp only
  (repeat' split) <;> simp
@[simp] theorem doWork_pins (w : Work) (p : Part) : (doWork w p).1.pins = p.pins := by
  unfold doWork
  dsimp only
  (repeat' split) <;> simp
@[simp] theorem doWork_straps (w : Work) (p : Part) : (doWork w p).1.straps = p.straps := by
  unfold doWork
  dsimp only
  (repeat' split) <;> simp
@[simp] theorem doWork_lastReset (w : Work) (p : Part) : (doWork w p).1.lastReset = p.lastReset := by
  unfold doWork
  dsimp only
  (repeat' split) <;> simp
@[simp] theorem doWork_filing (w : Work) (p : Part) : (doWork w p).1.filing = p.filing := by
  unfold doWork
  dsimp only
  (repeat' split) <;> simp
@[simp] theorem doWork_portA (w : Work) (p : Part) : (doWork w p).1.portA = p.portA := by
  unfold doWork
  dsimp only
  (repeat' split) <;> simp
@[simp] theorem doWork_portB (w : Work) (p : Part) : (doWork w p).1.portB = p.portB := by
  unfold doWork
  dsimp only
  (repeat' split) <;> simp
@[simp] theorem doWork_timeBase (w : Work) (p : Part) : (doWork w p).1.timeBase = p.timeBase := by
  unfold doWork
  dsimp only
  (repeat' split) <;> simp
@[simp] theorem doWork_sorter (w : Work) (p : Part) : (doWork w p).1.sorter = p.sorter := by
  unfold doWork
  dsimp only
  (repeat' split) <;> simp
@[simp] theorem doWork_lanes (w : Work) (p : Part) : (doWork w p).1.lanes = p.lanes := by
  unfold doWork
  dsimp only
  (repeat' split) <;> simp
@[simp] theorem doWork_store (w : Work) (p : Part) : (doWork w p).1.store = p.store := by
  unfold doWork
  dsimp only
  (repeat' split) <;> simp
@[simp] theorem doWork_egress (w : Work) (p : Part) : (doWork w p).1.egress = p.egress := by
  unfold doWork
  dsimp only
  (repeat' split) <;> simp

@[simp] theorem doAll_clock (n : Nat) (ws : List Work) (p : Part) : (doAll n ws p).clock = p.clock := by
  induction n generalizing ws p with
  | zero => rfl
  | succ n ih =>
    cases ws with
    | nil => rfl
    | cons w ws => simp [doAll, ih]
@[simp] theorem doAll_idleSpan (n : Nat) (ws : List Work) (p : Part) : (doAll n ws p).idleSpan = p.idleSpan := by
  induction n generalizing ws p with
  | zero => rfl
  | succ n ih =>
    cases ws with
    | nil => rfl
    | cons w ws => simp [doAll, ih]
@[simp] theorem doAll_freeUses (n : Nat) (ws : List Work) (p : Part) : (doAll n ws p).freeUses = p.freeUses := by
  induction n generalizing ws p with
  | zero => rfl
  | succ n ih =>
    cases ws with
    | nil => rfl
    | cons w ws => simp [doAll, ih]
@[simp] theorem doAll_pins (n : Nat) (ws : List Work) (p : Part) : (doAll n ws p).pins = p.pins := by
  induction n generalizing ws p with
  | zero => rfl
  | succ n ih =>
    cases ws with
    | nil => rfl
    | cons w ws => simp [doAll, ih]
@[simp] theorem doAll_straps (n : Nat) (ws : List Work) (p : Part) : (doAll n ws p).straps = p.straps := by
  induction n generalizing ws p with
  | zero => rfl
  | succ n ih =>
    cases ws with
    | nil => rfl
    | cons w ws => simp [doAll, ih]
@[simp] theorem doAll_lastReset (n : Nat) (ws : List Work) (p : Part) : (doAll n ws p).lastReset = p.lastReset := by
  induction n generalizing ws p with
  | zero => rfl
  | succ n ih =>
    cases ws with
    | nil => rfl
    | cons w ws => simp [doAll, ih]
@[simp] theorem doAll_filing (n : Nat) (ws : List Work) (p : Part) : (doAll n ws p).filing = p.filing := by
  induction n generalizing ws p with
  | zero => rfl
  | succ n ih =>
    cases ws with
    | nil => rfl
    | cons w ws => simp [doAll, ih]
@[simp] theorem doAll_portA (n : Nat) (ws : List Work) (p : Part) : (doAll n ws p).portA = p.portA := by
  induction n generalizing ws p with
  | zero => rfl
  | succ n ih =>
    cases ws with
    | nil => rfl
    | cons w ws => simp [doAll, ih]
@[simp] theorem doAll_portB (n : Nat) (ws : List Work) (p : Part) : (doAll n ws p).portB = p.portB := by
  induction n generalizing ws p with
  | zero => rfl
  | succ n ih =>
    cases ws with
    | nil => rfl
    | cons w ws => simp [doAll, ih]
@[simp] theorem doAll_timeBase (n : Nat) (ws : List Work) (p : Part) : (doAll n ws p).timeBase = p.timeBase := by
  induction n generalizing ws p with
  | zero => rfl
  | succ n ih =>
    cases ws with
    | nil => rfl
    | cons w ws => simp [doAll, ih]
@[simp] theorem doAll_sorter (n : Nat) (ws : List Work) (p : Part) : (doAll n ws p).sorter = p.sorter := by
  induction n generalizing ws p with
  | zero => rfl
  | succ n ih =>
    cases ws with
    | nil => rfl
    | cons w ws => simp [doAll, ih]
@[simp] theorem doAll_lanes (n : Nat) (ws : List Work) (p : Part) : (doAll n ws p).lanes = p.lanes := by
  induction n generalizing ws p with
  | zero => rfl
  | succ n ih =>
    cases ws with
    | nil => rfl
    | cons w ws => simp [doAll, ih]
@[simp] theorem doAll_store (n : Nat) (ws : List Work) (p : Part) : (doAll n ws p).store = p.store := by
  induction n generalizing ws p with
  | zero => rfl
  | succ n ih =>
    cases ws with
    | nil => rfl
    | cons w ws => simp [doAll, ih]
@[simp] theorem doAll_egress (n : Nat) (ws : List Work) (p : Part) : (doAll n ws p).egress = p.egress := by
  induction n generalizing ws p with
  | zero => rfl
  | succ n ih =>
    cases ws with
    | nil => rfl
    | cons w ws => simp [doAll, ih]

@[simp] theorem carryOut_clock (ws : List Work) (p : Part) : (carryOut ws p).clock = p.clock := by simp [carryOut]
@[simp] theorem carryOut_idleSpan (ws : List Work) (p : Part) : (carryOut ws p).idleSpan = p.idleSpan := by simp [carryOut]
@[simp] theorem carryOut_freeUses (ws : List Work) (p : Part) : (carryOut ws p).freeUses = p.freeUses := by simp [carryOut]
@[simp] theorem carryOut_pins (ws : List Work) (p : Part) : (carryOut ws p).pins = p.pins := by simp [carryOut]
@[simp] theorem carryOut_straps (ws : List Work) (p : Part) : (carryOut ws p).straps = p.straps := by simp [carryOut]
@[simp] theorem carryOut_lastReset (ws : List Work) (p : Part) : (carryOut ws p).lastReset = p.lastReset := by simp [carryOut]
@[simp] theorem carryOut_filing (ws : List Work) (p : Part) : (carryOut ws p).filing = p.filing := by simp [carryOut]
@[simp] theorem carryOut_portA (ws : List Work) (p : Part) : (carryOut ws p).portA = p.portA := by simp [carryOut]
@[simp] theorem carryOut_portB (ws : List Work) (p : Part) : (carryOut ws p).portB = p.portB := by simp [carryOut]
@[simp] theorem carryOut_timeBase (ws : List Work) (p : Part) : (carryOut ws p).timeBase = p.timeBase := by simp [carryOut]
@[simp] theorem carryOut_sorter (ws : List Work) (p : Part) : (carryOut ws p).sorter = p.sorter := by simp [carryOut]
@[simp] theorem carryOut_lanes (ws : List Work) (p : Part) : (carryOut ws p).lanes = p.lanes := by simp [carryOut]

@[simp] theorem withdrawIndex_clock (i : Nat) (p : Part) : (withdrawIndex i p).clock = p.clock := by simp [withdrawIndex]
@[simp] theorem withdrawIndex_idleSpan (i : Nat) (p : Part) : (withdrawIndex i p).idleSpan = p.idleSpan := by simp [withdrawIndex]
@[simp] theorem withdrawIndex_freeUses (i : Nat) (p : Part) : (withdrawIndex i p).freeUses = p.freeUses := by simp [withdrawIndex]
@[simp] theorem withdrawIndex_pins (i : Nat) (p : Part) : (withdrawIndex i p).pins = p.pins := by simp [withdrawIndex]
@[simp] theorem withdrawIndex_straps (i : Nat) (p : Part) : (withdrawIndex i p).straps = p.straps := by simp [withdrawIndex]
@[simp] theorem withdrawIndex_lastReset (i : Nat) (p : Part) : (withdrawIndex i p).lastReset = p.lastReset := by simp [withdrawIndex]
@[simp] theorem withdrawIndex_filing (i : Nat) (p : Part) : (withdrawIndex i p).filing = p.filing := by simp [withdrawIndex]
@[simp] theorem withdrawIndex_portA (i : Nat) (p : Part) : (withdrawIndex i p).portA = p.portA := by simp [withdrawIndex]
@[simp] theorem withdrawIndex_portB (i : Nat) (p : Part) : (withdrawIndex i p).portB = p.portB := by simp [withdrawIndex]
@[simp] theorem withdrawIndex_timeBase (i : Nat) (p : Part) : (withdrawIndex i p).timeBase = p.timeBase := by simp [withdrawIndex]
@[simp] theorem withdrawIndex_sorter (i : Nat) (p : Part) : (withdrawIndex i p).sorter = p.sorter := by simp [withdrawIndex]
@[simp] theorem withdrawIndex_lanes (i : Nat) (p : Part) : (withdrawIndex i p).lanes = p.lanes := by simp [withdrawIndex]

@[simp] theorem deadlineExpiry_clock (l : Label) (p : Part) : (deadlineExpiry l p).clock = p.clock := by
  unfold deadlineExpiry
  (repeat' split) <;> simp
@[simp] theorem deadlineExpiry_idleSpan (l : Label) (p : Part) : (deadlineExpiry l p).idleSpan = p.idleSpan := by
  unfold deadlineExpiry
  (repeat' split) <;> simp
@[simp] theorem deadlineExpiry_freeUses (l : Label) (p : Part) : (deadlineExpiry l p).freeUses = p.freeUses := by
  unfold deadlineExpiry
  (repeat' split) <;> simp
@[simp] theorem deadlineExpiry_pins (l : Label) (p : Part) : (deadlineExpiry l p).pins = p.pins := by
  unfold deadlineExpiry
  (repeat' split) <;> simp
@[simp] theorem deadlineExpiry_straps (l : Label) (p : Part) : (deadlineExpiry l p).straps = p.straps := by
  unfold deadlineExpiry
  (repeat' split) <;> simp
@[simp] theorem deadlineExpiry_lastReset (l : Label) (p : Part) : (deadlineExpiry l p).lastReset = p.lastReset := by
  unfold deadlineExpiry
  (repeat' split) <;> simp
@[simp] theorem deadlineExpiry_filing (l : Label) (p : Part) : (deadlineExpiry l p).filing = p.filing := by
  unfold deadlineExpiry
  (repeat' split) <;> simp
@[simp] theorem deadlineExpiry_portA (l : Label) (p : Part) : (deadlineExpiry l p).portA = p.portA := by
  unfold deadlineExpiry
  (repeat' split) <;> simp
@[simp] theorem deadlineExpiry_portB (l : Label) (p : Part) : (deadlineExpiry l p).portB = p.portB := by
  unfold deadlineExpiry
  (repeat' split) <;> simp
@[simp] theorem deadlineExpiry_timeBase (l : Label) (p : Part) : (deadlineExpiry l p).timeBase = p.timeBase := by
  unfold deadlineExpiry
  (repeat' split) <;> simp
@[simp] theorem deadlineExpiry_sorter (l : Label) (p : Part) : (deadlineExpiry l p).sorter = p.sorter := by
  unfold deadlineExpiry
  (repeat' split) <;> simp
@[simp] theorem deadlineExpiry_lanes (l : Label) (p : Part) : (deadlineExpiry l p).lanes = p.lanes := by
  unfold deadlineExpiry
  (repeat' split) <;> simp

@[simp] theorem completeAll_clock (p : Part) : (completeAll p).clock = p.clock := by simp [completeAll]
@[simp] theorem completeAll_idleSpan (p : Part) : (completeAll p).idleSpan = p.idleSpan := by simp [completeAll]
@[simp] theorem completeAll_freeUses (p : Part) : (completeAll p).freeUses = p.freeUses := by simp [completeAll]
@[simp] theorem completeAll_pins (p : Part) : (completeAll p).pins = p.pins := by simp [completeAll]
@[simp] theorem completeAll_straps (p : Part) : (completeAll p).straps = p.straps := by simp [completeAll]
@[simp] theorem completeAll_lastReset (p : Part) : (completeAll p).lastReset = p.lastReset := by simp [completeAll]
@[simp] theorem completeAll_filing (p : Part) : (completeAll p).filing = p.filing := by simp [completeAll]
@[simp] theorem completeAll_portA (p : Part) : (completeAll p).portA = p.portA := by simp [completeAll]
@[simp] theorem completeAll_portB (p : Part) : (completeAll p).portB = p.portB := by simp [completeAll]
@[simp] theorem completeAll_timeBase (p : Part) : (completeAll p).timeBase = p.timeBase := by simp [completeAll]
@[simp] theorem completeAll_streams (p : Part) : (completeAll p).streams = p.streams := by simp [completeAll]
@[simp] theorem completeAll_sorter (p : Part) : (completeAll p).sorter = p.sorter := by simp [completeAll]
@[simp] theorem completeAll_lanes (p : Part) : (completeAll p).lanes = p.lanes := by simp [completeAll]
@[simp] theorem completeAll_store (p : Part) : (completeAll p).store = p.store := by simp [completeAll]
@[simp] theorem completeAll_egress (p : Part) : (completeAll p).egress = p.egress := by simp [completeAll]
@[simp] theorem completeAll_control (p : Part) : (completeAll p).control = p.control := by simp [completeAll]
@[simp] theorem completeAll_attention (p : Part) : (completeAll p).attention = p.attention := by simp [completeAll]

@[simp] theorem openEntry_clock (b : OpenedBy) (l : Label) (p : Part) : (openEntry b l p).clock = p.clock := by simp [openEntry]
@[simp] theorem openEntry_idleSpan (b : OpenedBy) (l : Label) (p : Part) : (openEntry b l p).idleSpan = p.idleSpan := by simp [openEntry]
@[simp] theorem openEntry_freeUses (b : OpenedBy) (l : Label) (p : Part) : (openEntry b l p).freeUses = p.freeUses := by simp [openEntry]
@[simp] theorem openEntry_pins (b : OpenedBy) (l : Label) (p : Part) : (openEntry b l p).pins = p.pins := by simp [openEntry]
@[simp] theorem openEntry_straps (b : OpenedBy) (l : Label) (p : Part) : (openEntry b l p).straps = p.straps := by simp [openEntry]
@[simp] theorem openEntry_lastReset (b : OpenedBy) (l : Label) (p : Part) : (openEntry b l p).lastReset = p.lastReset := by simp [openEntry]
@[simp] theorem openEntry_filing (b : OpenedBy) (l : Label) (p : Part) : (openEntry b l p).filing = p.filing := by simp [openEntry]
@[simp] theorem openEntry_portA (b : OpenedBy) (l : Label) (p : Part) : (openEntry b l p).portA = p.portA := by simp [openEntry]
@[simp] theorem openEntry_portB (b : OpenedBy) (l : Label) (p : Part) : (openEntry b l p).portB = p.portB := by simp [openEntry]
@[simp] theorem openEntry_timeBase (b : OpenedBy) (l : Label) (p : Part) : (openEntry b l p).timeBase = p.timeBase := by simp [openEntry]
@[simp] theorem openEntry_streams (b : OpenedBy) (l : Label) (p : Part) : (openEntry b l p).streams = p.streams := by simp [openEntry]
@[simp] theorem openEntry_sorter (b : OpenedBy) (l : Label) (p : Part) : (openEntry b l p).sorter = p.sorter := by simp [openEntry]
@[simp] theorem openEntry_lanes (b : OpenedBy) (l : Label) (p : Part) : (openEntry b l p).lanes = p.lanes := by simp [openEntry]
@[simp] theorem openEntry_store (b : OpenedBy) (l : Label) (p : Part) : (openEntry b l p).store = p.store := by simp [openEntry]
@[simp] theorem openEntry_egress (b : OpenedBy) (l : Label) (p : Part) : (openEntry b l p).egress = p.egress := by simp [openEntry]
@[simp] theorem openEntry_control (b : OpenedBy) (l : Label) (p : Part) : (openEntry b l p).control = p.control := by simp [openEntry]
@[simp] theorem openEntry_attention (b : OpenedBy) (l : Label) (p : Part) : (openEntry b l p).attention = p.attention := by simp [openEntry]

@[simp] theorem makeRoom_clock (l : Label) (p : Part) : (makeRoom l p).clock = p.clock := by
  unfold makeRoom
  (repeat' split) <;> simp
@[simp] theorem makeRoom_idleSpan (l : Label) (p : Part) : (makeRoom l p).idleSpan = p.idleSpan := by
  unfold makeRoom
  (repeat' split) <;> simp
@[simp] theorem makeRoom_freeUses (l : Label) (p : Part) : (makeRoom l p).freeUses = p.freeUses := by
  unfold makeRoom
  (repeat' split) <;> simp
@[simp] theorem makeRoom_pins (l : Label) (p : Part) : (makeRoom l p).pins = p.pins := by
  unfold makeRoom
  (repeat' split) <;> simp
@[simp] theorem makeRoom_straps (l : Label) (p : Part) : (makeRoom l p).straps = p.straps := by
  unfold makeRoom
  (repeat' split) <;> simp
@[simp] theorem makeRoom_lastReset (l : Label) (p : Part) : (makeRoom l p).lastReset = p.lastReset := by
  unfold makeRoom
  (repeat' split) <;> simp
@[simp] theorem makeRoom_filing (l : Label) (p : Part) : (makeRoom l p).filing = p.filing := by
  unfold makeRoom
  (repeat' split) <;> simp
@[simp] theorem makeRoom_portA (l : Label) (p : Part) : (makeRoom l p).portA = p.portA := by
  unfold makeRoom
  (repeat' split) <;> simp
@[simp] theorem makeRoom_portB (l : Label) (p : Part) : (makeRoom l p).portB = p.portB := by
  unfold makeRoom
  (repeat' split) <;> simp
@[simp] theorem makeRoom_timeBase (l : Label) (p : Part) : (makeRoom l p).timeBase = p.timeBase := by
  unfold makeRoom
  (repeat' split) <;> simp
@[simp] theorem makeRoom_sorter (l : Label) (p : Part) : (makeRoom l p).sorter = p.sorter := by
  unfold makeRoom
  (repeat' split) <;> simp
@[simp] theorem makeRoom_lanes (l : Label) (p : Part) : (makeRoom l p).lanes = p.lanes := by
  unfold makeRoom
  (repeat' split) <;> simp
@[simp] theorem makeRoom_egress (l : Label) (p : Part) : (makeRoom l p).egress = p.egress := by
  unfold makeRoom
  (repeat' split) <;> simp

@[simp] theorem skipLabel_clock (p : Part) : (skipLabel p).clock = p.clock := by simp [skipLabel]
@[simp] theorem skipLabel_idleSpan (p : Part) : (skipLabel p).idleSpan = p.idleSpan := by simp [skipLabel]
@[simp] theorem skipLabel_freeUses (p : Part) : (skipLabel p).freeUses = p.freeUses := by simp [skipLabel]
@[simp] theorem skipLabel_pins (p : Part) : (skipLabel p).pins = p.pins := by simp [skipLabel]
@[simp] theorem skipLabel_straps (p : Part) : (skipLabel p).straps = p.straps := by simp [skipLabel]
@[simp] theorem skipLabel_lastReset (p : Part) : (skipLabel p).lastReset = p.lastReset := by simp [skipLabel]
@[simp] theorem skipLabel_filing (p : Part) : (skipLabel p).filing = p.filing := by simp [skipLabel]
@[simp] theorem skipLabel_portA (p : Part) : (skipLabel p).portA = p.portA := by simp [skipLabel]
@[simp] theorem skipLabel_portB (p : Part) : (skipLabel p).portB = p.portB := by simp [skipLabel]
@[simp] theorem skipLabel_timeBase (p : Part) : (skipLabel p).timeBase = p.timeBase := by simp [skipLabel]
@[simp] theorem skipLabel_streams (p : Part) : (skipLabel p).streams = p.streams := by simp [skipLabel]
@[simp] theorem skipLabel_sorter (p : Part) : (skipLabel p).sorter = p.sorter := by simp [skipLabel]
@[simp] theorem skipLabel_lanes (p : Part) : (skipLabel p).lanes = p.lanes := by simp [skipLabel]
@[simp] theorem skipLabel_store (p : Part) : (skipLabel p).store = p.store := by simp [skipLabel]
@[simp] theorem skipLabel_egress (p : Part) : (skipLabel p).egress = p.egress := by simp [skipLabel]

@[simp] theorem takeStrobe_clock (l : Label) (p : Part) : (takeStrobe l p).clock = p.clock := by
  unfold takeStrobe
  dsimp only
  (repeat' split) <;> simp
@[simp] theorem takeStrobe_idleSpan (l : Label) (p : Part) : (takeStrobe l p).idleSpan = p.idleSpan := by
  unfold takeStrobe
  dsimp only
  (repeat' split) <;> simp
@[simp] theorem takeStrobe_freeUses (l : Label) (p : Part) : (takeStrobe l p).freeUses = p.freeUses := by
  unfold takeStrobe
  dsimp only
  (repeat' split) <;> simp
@[simp] theorem takeStrobe_pins (l : Label) (p : Part) : (takeStrobe l p).pins = p.pins := by
  unfold takeStrobe
  dsimp only
  (repeat' split) <;> simp
@[simp] theorem takeStrobe_straps (l : Label) (p : Part) : (takeStrobe l p).straps = p.straps := by
  unfold takeStrobe
  dsimp only
  (repeat' split) <;> simp
@[simp] theorem takeStrobe_lastReset (l : Label) (p : Part) : (takeStrobe l p).lastReset = p.lastReset := by
  unfold takeStrobe
  dsimp only
  (repeat' split) <;> simp
@[simp] theorem takeStrobe_filing (l : Label) (p : Part) : (takeStrobe l p).filing = p.filing := by
  unfold takeStrobe
  dsimp only
  (repeat' split) <;> simp
@[simp] theorem takeStrobe_portA (l : Label) (p : Part) : (takeStrobe l p).portA = p.portA := by
  unfold takeStrobe
  dsimp only
  (repeat' split) <;> simp
@[simp] theorem takeStrobe_portB (l : Label) (p : Part) : (takeStrobe l p).portB = p.portB := by
  unfold takeStrobe
  dsimp only
  (repeat' split) <;> simp
@[simp] theorem takeStrobe_timeBase (l : Label) (p : Part) : (takeStrobe l p).timeBase = p.timeBase := by
  unfold takeStrobe
  dsimp only
  (repeat' split) <;> simp
@[simp] theorem takeStrobe_sorter (l : Label) (p : Part) : (takeStrobe l p).sorter = p.sorter := by
  unfold takeStrobe
  dsimp only
  (repeat' split) <;> simp
@[simp] theorem takeStrobe_lanes (l : Label) (p : Part) : (takeStrobe l p).lanes = p.lanes := by
  unfold takeStrobe
  dsimp only
  (repeat' split) <;> simp

@[simp] theorem strobe_clock (p : Part) : (strobe p).clock = p.clock := by
  unfold strobe
  (repeat' split) <;> simp
@[simp] theorem strobe_idleSpan (p : Part) : (strobe p).idleSpan = p.idleSpan := by
  unfold strobe
  (repeat' split) <;> simp
@[simp] theorem strobe_freeUses (p : Part) : (strobe p).freeUses = p.freeUses := by
  unfold strobe
  (repeat' split) <;> simp
@[simp] theorem strobe_pins (p : Part) : (strobe p).pins = p.pins := by
  unfold strobe
  (repeat' split) <;> simp
@[simp] theorem strobe_straps (p : Part) : (strobe p).straps = p.straps := by
  unfold strobe
  (repeat' split) <;> simp
@[simp] theorem strobe_lastReset (p : Part) : (strobe p).lastReset = p.lastReset := by
  unfold strobe
  (repeat' split) <;> simp
@[simp] theorem strobe_filing (p : Part) : (strobe p).filing = p.filing := by
  unfold strobe
  (repeat' split) <;> simp
@[simp] theorem strobe_portA (p : Part) : (strobe p).portA = p.portA := by
  unfold strobe
  (repeat' split) <;> simp
@[simp] theorem strobe_portB (p : Part) : (strobe p).portB = p.portB := by
  unfold strobe
  (repeat' split) <;> simp
@[simp] theorem strobe_timeBase (p : Part) : (strobe p).timeBase = p.timeBase := by
  unfold strobe
  (repeat' split) <;> simp
@[simp] theorem strobe_sorter (p : Part) : (strobe p).sorter = p.sorter := by
  unfold strobe
  (repeat' split) <;> simp
@[simp] theorem strobe_lanes (p : Part) : (strobe p).lanes = p.lanes := by
  unfold strobe
  (repeat' split) <;> simp

@[simp] theorem strobeRun_clock (n : Nat) (p : Part) : (strobeRun n p).clock = p.clock := by
  induction n generalizing p with
  | zero => rfl
  | succ n ih =>
    unfold strobeRun
    (repeat' split) <;> simp [ih]
@[simp] theorem strobeRun_idleSpan (n : Nat) (p : Part) : (strobeRun n p).idleSpan = p.idleSpan := by
  induction n generalizing p with
  | zero => rfl
  | succ n ih =>
    unfold strobeRun
    (repeat' split) <;> simp [ih]
@[simp] theorem strobeRun_freeUses (n : Nat) (p : Part) : (strobeRun n p).freeUses = p.freeUses := by
  induction n generalizing p with
  | zero => rfl
  | succ n ih =>
    unfold strobeRun
    (repeat' split) <;> simp [ih]
@[simp] theorem strobeRun_pins (n : Nat) (p : Part) : (strobeRun n p).pins = p.pins := by
  induction n generalizing p with
  | zero => rfl
  | succ n ih =>
    unfold strobeRun
    (repeat' split) <;> simp [ih]
@[simp] theorem strobeRun_straps (n : Nat) (p : Part) : (strobeRun n p).straps = p.straps := by
  induction n generalizing p with
  | zero => rfl
  | succ n ih =>
    unfold strobeRun
    (repeat' split) <;> simp [ih]
@[simp] theorem strobeRun_lastReset (n : Nat) (p : Part) : (strobeRun n p).lastReset = p.lastReset := by
  induction n generalizing p with
  | zero => rfl
  | succ n ih =>
    unfold strobeRun
    (repeat' split) <;> simp [ih]
@[simp] theorem strobeRun_filing (n : Nat) (p : Part) : (strobeRun n p).filing = p.filing := by
  induction n generalizing p with
  | zero => rfl
  | succ n ih =>
    unfold strobeRun
    (repeat' split) <;> simp [ih]
@[simp] theorem strobeRun_portA (n : Nat) (p : Part) : (strobeRun n p).portA = p.portA := by
  induction n generalizing p with
  | zero => rfl
  | succ n ih =>
    unfold strobeRun
    (repeat' split) <;> simp [ih]
@[simp] theorem strobeRun_portB (n : Nat) (p : Part) : (strobeRun n p).portB = p.portB := by
  induction n generalizing p with
  | zero => rfl
  | succ n ih =>
    unfold strobeRun
    (repeat' split) <;> simp [ih]
@[simp] theorem strobeRun_timeBase (n : Nat) (p : Part) : (strobeRun n p).timeBase = p.timeBase := by
  induction n generalizing p with
  | zero => rfl
  | succ n ih =>
    unfold strobeRun
    (repeat' split) <;> simp [ih]
@[simp] theorem strobeRun_sorter (n : Nat) (p : Part) : (strobeRun n p).sorter = p.sorter := by
  induction n generalizing p with
  | zero => rfl
  | succ n ih =>
    unfold strobeRun
    (repeat' split) <;> simp [ih]
@[simp] theorem strobeRun_lanes (n : Nat) (p : Part) : (strobeRun n p).lanes = p.lanes := by
  induction n generalizing p with
  | zero => rfl
  | succ n ih =>
    unfold strobeRun
    (repeat' split) <;> simp [ih]

@[simp] theorem expireDue_clock (p : Part) : (expireDue p).clock = p.clock := by simp [expireDue]
@[simp] theorem expireDue_idleSpan (p : Part) : (expireDue p).idleSpan = p.idleSpan := by simp [expireDue]
@[simp] theorem expireDue_freeUses (p : Part) : (expireDue p).freeUses = p.freeUses := by simp [expireDue]
@[simp] theorem expireDue_pins (p : Part) : (expireDue p).pins = p.pins := by simp [expireDue]
@[simp] theorem expireDue_straps (p : Part) : (expireDue p).straps = p.straps := by simp [expireDue]
@[simp] theorem expireDue_lastReset (p : Part) : (expireDue p).lastReset = p.lastReset := by simp [expireDue]
@[simp] theorem expireDue_filing (p : Part) : (expireDue p).filing = p.filing := by simp [expireDue]
@[simp] theorem expireDue_portA (p : Part) : (expireDue p).portA = p.portA := by simp [expireDue]
@[simp] theorem expireDue_portB (p : Part) : (expireDue p).portB = p.portB := by simp [expireDue]
@[simp] theorem expireDue_timeBase (p : Part) : (expireDue p).timeBase = p.timeBase := by simp [expireDue]
@[simp] theorem expireDue_sorter (p : Part) : (expireDue p).sorter = p.sorter := by simp [expireDue]
@[simp] theorem expireDue_lanes (p : Part) : (expireDue p).lanes = p.lanes := by simp [expireDue]

@[simp] theorem takeForwardStep_clock (p : Part) : (takeForwardStep p).clock = p.clock := by
  unfold takeForwardStep
  dsimp only
  (repeat' split) <;> simp
@[simp] theorem takeForwardStep_idleSpan (p : Part) : (takeForwardStep p).idleSpan = p.idleSpan := by
  unfold takeForwardStep
  dsimp only
  (repeat' split) <;> simp
@[simp] theorem takeForwardStep_pins (p : Part) : (takeForwardStep p).pins = p.pins := by
  unfold takeForwardStep
  dsimp only
  (repeat' split) <;> simp
@[simp] theorem takeForwardStep_straps (p : Part) : (takeForwardStep p).straps = p.straps := by
  unfold takeForwardStep
  dsimp only
  (repeat' split) <;> simp
@[simp] theorem takeForwardStep_lastReset (p : Part) : (takeForwardStep p).lastReset = p.lastReset := by
  unfold takeForwardStep
  dsimp only
  (repeat' split) <;> simp
@[simp] theorem takeForwardStep_filing (p : Part) : (takeForwardStep p).filing = p.filing := by
  unfold takeForwardStep
  dsimp only
  (repeat' split) <;> simp
@[simp] theorem takeForwardStep_portA (p : Part) : (takeForwardStep p).portA = p.portA := by
  unfold takeForwardStep
  dsimp only
  (repeat' split) <;> simp
@[simp] theorem takeForwardStep_portB (p : Part) : (takeForwardStep p).portB = p.portB := by
  unfold takeForwardStep
  dsimp only
  (repeat' split) <;> simp
@[simp] theorem takeForwardStep_timeBase (p : Part) : (takeForwardStep p).timeBase = p.timeBase := by
  unfold takeForwardStep
  dsimp only
  (repeat' split) <;> simp
@[simp] theorem takeForwardStep_sorter (p : Part) : (takeForwardStep p).sorter = p.sorter := by
  unfold takeForwardStep
  dsimp only
  (repeat' split) <;> simp
@[simp] theorem takeForwardStep_lanes (p : Part) : (takeForwardStep p).lanes = p.lanes := by
  unfold takeForwardStep
  dsimp only
  (repeat' split) <;> simp

@[simp] theorem leaveIdle_clock (p : Part) : (leaveIdle p).clock = p.clock := by
  unfold leaveIdle
  (repeat' split) <;> simp
@[simp] theorem leaveIdle_idleSpan (p : Part) : (leaveIdle p).idleSpan = p.idleSpan := by
  unfold leaveIdle
  (repeat' split) <;> simp
@[simp] theorem leaveIdle_freeUses (p : Part) : (leaveIdle p).freeUses = p.freeUses := by
  unfold leaveIdle
  (repeat' split) <;> simp
@[simp] theorem leaveIdle_pins (p : Part) : (leaveIdle p).pins = p.pins := by
  unfold leaveIdle
  (repeat' split) <;> simp
@[simp] theorem leaveIdle_straps (p : Part) : (leaveIdle p).straps = p.straps := by
  unfold leaveIdle
  (repeat' split) <;> simp
@[simp] theorem leaveIdle_lastReset (p : Part) : (leaveIdle p).lastReset = p.lastReset := by
  unfold leaveIdle
  (repeat' split) <;> simp
@[simp] theorem leaveIdle_filing (p : Part) : (leaveIdle p).filing = p.filing := by
  unfold leaveIdle
  (repeat' split) <;> simp
@[simp] theorem leaveIdle_portA (p : Part) : (leaveIdle p).portA = p.portA := by
  unfold leaveIdle
  (repeat' split) <;> simp
@[simp] theorem leaveIdle_portB (p : Part) : (leaveIdle p).portB = p.portB := by
  unfold leaveIdle
  (repeat' split) <;> simp
@[simp] theorem leaveIdle_timeBase (p : Part) : (leaveIdle p).timeBase = p.timeBase := by
  unfold leaveIdle
  (repeat' split) <;> simp
@[simp] theorem leaveIdle_streams (p : Part) : (leaveIdle p).streams = p.streams := by
  unfold leaveIdle
  (repeat' split) <;> simp
@[simp] theorem leaveIdle_sorter (p : Part) : (leaveIdle p).sorter = p.sorter := by
  unfold leaveIdle
  (repeat' split) <;> simp
@[simp] theorem leaveIdle_lanes (p : Part) : (leaveIdle p).lanes = p.lanes := by
  unfold leaveIdle
  (repeat' split) <;> simp
@[simp] theorem leaveIdle_store (p : Part) : (leaveIdle p).store = p.store := by
  unfold leaveIdle
  (repeat' split) <;> simp
@[simp] theorem leaveIdle_egress (p : Part) : (leaveIdle p).egress = p.egress := by
  unfold leaveIdle
  (repeat' split) <;> simp
@[simp] theorem leaveIdle_control (p : Part) : (leaveIdle p).control = p.control := by
  unfold leaveIdle
  (repeat' split) <;> simp
@[simp] theorem leaveIdle_attention (p : Part) : (leaveIdle p).attention = p.attention := by
  unfold leaveIdle
  (repeat' split) <;> simp

@[simp] theorem resumeEngine_clock (p : Part) : (resumeEngine p).clock = p.clock := by
  unfold resumeEngine
  dsimp only
  (repeat' split) <;> simp
@[simp] theorem resumeEngine_idleSpan (p : Part) : (resumeEngine p).idleSpan = p.idleSpan := by
  unfold resumeEngine
  dsimp only
  (repeat' split) <;> simp
@[simp] theorem resumeEngine_freeUses (p : Part) : (resumeEngine p).freeUses = p.freeUses := by
  unfold resumeEngine
  dsimp only
  (repeat' split) <;> simp
@[simp] theorem resumeEngine_pins (p : Part) : (resumeEngine p).pins = p.pins := by
  unfold resumeEngine
  dsimp only
  (repeat' split) <;> simp
@[simp] theorem resumeEngine_straps (p : Part) : (resumeEngine p).straps = p.straps := by
  unfold resumeEngine
  dsimp only
  (repeat' split) <;> simp
@[simp] theorem resumeEngine_lastReset (p : Part) : (resumeEngine p).lastReset = p.lastReset := by
  unfold resumeEngine
  dsimp only
  (repeat' split) <;> simp
@[simp] theorem resumeEngine_filing (p : Part) : (resumeEngine p).filing = p.filing := by
  unfold resumeEngine
  dsimp only
  (repeat' split) <;> simp
@[simp] theorem resumeEngine_portA (p : Part) : (resumeEngine p).portA = p.portA := by
  unfold resumeEngine
  dsimp only
  (repeat' split) <;> simp
@[simp] theorem resumeEngine_portB (p : Part) : (resumeEngine p).portB = p.portB := by
  unfold resumeEngine
  dsimp only
  (repeat' split) <;> simp
@[simp] theorem resumeEngine_timeBase (p : Part) : (resumeEngine p).timeBase = p.timeBase := by
  unfold resumeEngine
  dsimp only
  (repeat' split) <;> simp
@[simp] theorem resumeEngine_sorter (p : Part) : (resumeEngine p).sorter = p.sorter := by
  unfold resumeEngine
  dsimp only
  (repeat' split) <;> simp
@[simp] theorem resumeEngine_lanes (p : Part) : (resumeEngine p).lanes = p.lanes := by
  unfold resumeEngine
  dsimp only
  (repeat' split) <;> simp
@[simp] theorem resumeEngine_store (p : Part) : (resumeEngine p).store = p.store := by
  unfold resumeEngine
  dsimp only
  (repeat' split) <;> simp
@[simp] theorem resumeEngine_egress (p : Part) : (resumeEngine p).egress = p.egress := by
  unfold resumeEngine
  dsimp only
  (repeat' split) <;> simp

end Sys2Proof.Machine
end

