-- ==== Sys2Proof/Laws/LaneFrames.lean ====
section
/-! SUPPORT. What the operations of the Feed Lanes leave unchanged. -/

namespace Sys2Proof.Machine

@[simp] theorem countLane_clock (l : LaneId) (f : LaneCounters → LaneCounters) (p : Part) : (countLane l f p).clock = p.clock := by simp [countLane]
@[simp] theorem countLane_idleSpan (l : LaneId) (f : LaneCounters → LaneCounters) (p : Part) : (countLane l f p).idleSpan = p.idleSpan := by simp [countLane]
@[simp] theorem countLane_freeUses (l : LaneId) (f : LaneCounters → LaneCounters) (p : Part) : (countLane l f p).freeUses = p.freeUses := by simp [countLane]
@[simp] theorem countLane_pins (l : LaneId) (f : LaneCounters → LaneCounters) (p : Part) : (countLane l f p).pins = p.pins := by simp [countLane]
@[simp] theorem countLane_straps (l : LaneId) (f : LaneCounters → LaneCounters) (p : Part) : (countLane l f p).straps = p.straps := by simp [countLane]
@[simp] theorem countLane_lastReset (l : LaneId) (f : LaneCounters → LaneCounters) (p : Part) : (countLane l f p).lastReset = p.lastReset := by simp [countLane]
@[simp] theorem countLane_filing (l : LaneId) (f : LaneCounters → LaneCounters) (p : Part) : (countLane l f p).filing = p.filing := by simp [countLane]
@[simp] theorem countLane_portA (l : LaneId) (f : LaneCounters → LaneCounters) (p : Part) : (countLane l f p).portA = p.portA := by simp [countLane]
@[simp] theorem countLane_portB (l : LaneId) (f : LaneCounters → LaneCounters) (p : Part) : (countLane l f p).portB = p.portB := by simp [countLane]
@[simp] theorem countLane_timeBase (l : LaneId) (f : LaneCounters → LaneCounters) (p : Part) : (countLane l f p).timeBase = p.timeBase := by simp [countLane]
@[simp] theorem countLane_streams (l : LaneId) (f : LaneCounters → LaneCounters) (p : Part) : (countLane l f p).streams = p.streams := by simp [countLane]
@[simp] theorem countLane_engine (l : LaneId) (f : LaneCounters → LaneCounters) (p : Part) : (countLane l f p).engine = p.engine := by simp [countLane]
@[simp] theorem countLane_sorter (l : LaneId) (f : LaneCounters → LaneCounters) (p : Part) : (countLane l f p).sorter = p.sorter := by simp [countLane]
@[simp] theorem countLane_store (l : LaneId) (f : LaneCounters → LaneCounters) (p : Part) : (countLane l f p).store = p.store := by simp [countLane]
@[simp] theorem countLane_egress (l : LaneId) (f : LaneCounters → LaneCounters) (p : Part) : (countLane l f p).egress = p.egress := by simp [countLane]
@[simp] theorem countLane_control (l : LaneId) (f : LaneCounters → LaneCounters) (p : Part) : (countLane l f p).control = p.control := by simp [countLane]
@[simp] theorem countLane_attention (l : LaneId) (f : LaneCounters → LaneCounters) (p : Part) : (countLane l f p).attention = p.attention := by simp [countLane]

@[simp] theorem setLaneDelta_clock (l : LaneId) (f : LaneDeltas → LaneDeltas) (p : Part) : (setLaneDelta l f p).clock = p.clock := by
  unfold setLaneDelta
  (repeat' split) <;> simp
@[simp] theorem setLaneDelta_idleSpan (l : LaneId) (f : LaneDeltas → LaneDeltas) (p : Part) : (setLaneDelta l f p).idleSpan = p.idleSpan := by
  unfold setLaneDelta
  (repeat' split) <;> simp
@[simp] theorem setLaneDelta_freeUses (l : LaneId) (f : LaneDeltas → LaneDeltas) (p : Part) : (setLaneDelta l f p).freeUses = p.freeUses := by
  unfold setLaneDelta
  (repeat' split) <;> simp
@[simp] theorem setLaneDelta_pins (l : LaneId) (f : LaneDeltas → LaneDeltas) (p : Part) : (setLaneDelta l f p).pins = p.pins := by
  unfold setLaneDelta
  (repeat' split) <;> simp
@[simp] theorem setLaneDelta_straps (l : LaneId) (f : LaneDeltas → LaneDeltas) (p : Part) : (setLaneDelta l f p).straps = p.straps := by
  unfold setLaneDelta
  (repeat' split) <;> simp
@[simp] theorem setLaneDelta_lastReset (l : LaneId) (f : LaneDeltas → LaneDeltas) (p : Part) : (setLaneDelta l f p).lastReset = p.lastReset := by
  unfold setLaneDelta
  (repeat' split) <;> simp
@[simp] theorem setLaneDelta_filing (l : LaneId) (f : LaneDeltas → LaneDeltas) (p : Part) : (setLaneDelta l f p).filing = p.filing := by
  unfold setLaneDelta
  (repeat' split) <;> simp
@[simp] theorem setLaneDelta_portA (l : LaneId) (f : LaneDeltas → LaneDeltas) (p : Part) : (setLaneDelta l f p).portA = p.portA := by
  unfold setLaneDelta
  (repeat' split) <;> simp
@[simp] theorem setLaneDelta_portB (l : LaneId) (f : LaneDeltas → LaneDeltas) (p : Part) : (setLaneDelta l f p).portB = p.portB := by
  unfold setLaneDelta
  (repeat' split) <;> simp
@[simp] theorem setLaneDelta_timeBase (l : LaneId) (f : LaneDeltas → LaneDeltas) (p : Part) : (setLaneDelta l f p).timeBase = p.timeBase := by
  unfold setLaneDelta
  (repeat' split) <;> simp
@[simp] theorem setLaneDelta_streams (l : LaneId) (f : LaneDeltas → LaneDeltas) (p : Part) : (setLaneDelta l f p).streams = p.streams := by
  unfold setLaneDelta
  (repeat' split) <;> simp
@[simp] theorem setLaneDelta_engine (l : LaneId) (f : LaneDeltas → LaneDeltas) (p : Part) : (setLaneDelta l f p).engine = p.engine := by
  unfold setLaneDelta
  (repeat' split) <;> simp
@[simp] theorem setLaneDelta_sorter (l : LaneId) (f : LaneDeltas → LaneDeltas) (p : Part) : (setLaneDelta l f p).sorter = p.sorter := by
  unfold setLaneDelta
  (repeat' split) <;> simp
@[simp] theorem setLaneDelta_store (l : LaneId) (f : LaneDeltas → LaneDeltas) (p : Part) : (setLaneDelta l f p).store = p.store := by
  unfold setLaneDelta
  (repeat' split) <;> simp
@[simp] theorem setLaneDelta_egress (l : LaneId) (f : LaneDeltas → LaneDeltas) (p : Part) : (setLaneDelta l f p).egress = p.egress := by
  unfold setLaneDelta
  (repeat' split) <;> simp

@[simp] theorem startFlow_clock (l : LaneId) (p : Part) : (startFlow l p).clock = p.clock := by
  unfold startFlow
  (repeat' split) <;> simp
@[simp] theorem startFlow_idleSpan (l : LaneId) (p : Part) : (startFlow l p).idleSpan = p.idleSpan := by
  unfold startFlow
  (repeat' split) <;> simp
@[simp] theorem startFlow_freeUses (l : LaneId) (p : Part) : (startFlow l p).freeUses = p.freeUses := by
  unfold startFlow
  (repeat' split) <;> simp
@[simp] theorem startFlow_pins (l : LaneId) (p : Part) : (startFlow l p).pins = p.pins := by
  unfold startFlow
  (repeat' split) <;> simp
@[simp] theorem startFlow_straps (l : LaneId) (p : Part) : (startFlow l p).straps = p.straps := by
  unfold startFlow
  (repeat' split) <;> simp
@[simp] theorem startFlow_lastReset (l : LaneId) (p : Part) : (startFlow l p).lastReset = p.lastReset := by
  unfold startFlow
  (repeat' split) <;> simp
@[simp] theorem startFlow_filing (l : LaneId) (p : Part) : (startFlow l p).filing = p.filing := by
  unfold startFlow
  (repeat' split) <;> simp
@[simp] theorem startFlow_portA (l : LaneId) (p : Part) : (startFlow l p).portA = p.portA := by
  unfold startFlow
  (repeat' split) <;> simp
@[simp] theorem startFlow_portB (l : LaneId) (p : Part) : (startFlow l p).portB = p.portB := by
  unfold startFlow
  (repeat' split) <;> simp
@[simp] theorem startFlow_timeBase (l : LaneId) (p : Part) : (startFlow l p).timeBase = p.timeBase := by
  unfold startFlow
  (repeat' split) <;> simp
@[simp] theorem startFlow_streams (l : LaneId) (p : Part) : (startFlow l p).streams = p.streams := by
  unfold startFlow
  (repeat' split) <;> simp
@[simp] theorem startFlow_engine (l : LaneId) (p : Part) : (startFlow l p).engine = p.engine := by
  unfold startFlow
  (repeat' split) <;> simp
@[simp] theorem startFlow_sorter (l : LaneId) (p : Part) : (startFlow l p).sorter = p.sorter := by
  unfold startFlow
  (repeat' split) <;> simp
@[simp] theorem startFlow_store (l : LaneId) (p : Part) : (startFlow l p).store = p.store := by
  unfold startFlow
  (repeat' split) <;> simp
@[simp] theorem startFlow_egress (l : LaneId) (p : Part) : (startFlow l p).egress = p.egress := by
  unfold startFlow
  (repeat' split) <;> simp

@[simp] theorem startFlows_clock (p : Part) : (startFlows p).clock = p.clock := by simp [startFlows]
@[simp] theorem startFlows_idleSpan (p : Part) : (startFlows p).idleSpan = p.idleSpan := by simp [startFlows]
@[simp] theorem startFlows_freeUses (p : Part) : (startFlows p).freeUses = p.freeUses := by simp [startFlows]
@[simp] theorem startFlows_pins (p : Part) : (startFlows p).pins = p.pins := by simp [startFlows]
@[simp] theorem startFlows_straps (p : Part) : (startFlows p).straps = p.straps := by simp [startFlows]
@[simp] theorem startFlows_lastReset (p : Part) : (startFlows p).lastReset = p.lastReset := by simp [startFlows]
@[simp] theorem startFlows_filing (p : Part) : (startFlows p).filing = p.filing := by simp [startFlows]
@[simp] theorem startFlows_portA (p : Part) : (startFlows p).portA = p.portA := by simp [startFlows]
@[simp] theorem startFlows_portB (p : Part) : (startFlows p).portB = p.portB := by simp [startFlows]
@[simp] theorem startFlows_timeBase (p : Part) : (startFlows p).timeBase = p.timeBase := by simp [startFlows]
@[simp] theorem startFlows_streams (p : Part) : (startFlows p).streams = p.streams := by simp [startFlows]
@[simp] theorem startFlows_engine (p : Part) : (startFlows p).engine = p.engine := by simp [startFlows]
@[simp] theorem startFlows_sorter (p : Part) : (startFlows p).sorter = p.sorter := by simp [startFlows]
@[simp] theorem startFlows_store (p : Part) : (startFlows p).store = p.store := by simp [startFlows]
@[simp] theorem startFlows_egress (p : Part) : (startFlows p).egress = p.egress := by simp [startFlows]

@[simp] theorem evalFlow_clock (l : LaneId) (p : Part) : (evalFlow l p).clock = p.clock := by simp [evalFlow]
@[simp] theorem evalFlow_idleSpan (l : LaneId) (p : Part) : (evalFlow l p).idleSpan = p.idleSpan := by simp [evalFlow]
@[simp] theorem evalFlow_freeUses (l : LaneId) (p : Part) : (evalFlow l p).freeUses = p.freeUses := by simp [evalFlow]
@[simp] theorem evalFlow_pins (l : LaneId) (p : Part) : (evalFlow l p).pins = p.pins := by simp [evalFlow]
@[simp] theorem evalFlow_straps (l : LaneId) (p : Part) : (evalFlow l p).straps = p.straps := by simp [evalFlow]
@[simp] theorem evalFlow_lastReset (l : LaneId) (p : Part) : (evalFlow l p).lastReset = p.lastReset := by simp [evalFlow]
@[simp] theorem evalFlow_filing (l : LaneId) (p : Part) : (evalFlow l p).filing = p.filing := by simp [evalFlow]
@[simp] theorem evalFlow_portA (l : LaneId) (p : Part) : (evalFlow l p).portA = p.portA := by simp [evalFlow]
@[simp] theorem evalFlow_portB (l : LaneId) (p : Part) : (evalFlow l p).portB = p.portB := by simp [evalFlow]
@[simp] theorem evalFlow_timeBase (l : LaneId) (p : Part) : (evalFlow l p).timeBase = p.timeBase := by simp [evalFlow]
@[simp] theorem evalFlow_streams (l : LaneId) (p : Part) : (evalFlow l p).streams = p.streams := by simp [evalFlow]
@[simp] theorem evalFlow_engine (l : LaneId) (p : Part) : (evalFlow l p).engine = p.engine := by simp [evalFlow]
@[simp] theorem evalFlow_sorter (l : LaneId) (p : Part) : (evalFlow l p).sorter = p.sorter := by simp [evalFlow]
@[simp] theorem evalFlow_store (l : LaneId) (p : Part) : (evalFlow l p).store = p.store := by simp [evalFlow]
@[simp] theorem evalFlow_egress (l : LaneId) (p : Part) : (evalFlow l p).egress = p.egress := by simp [evalFlow]

@[simp] theorem flowFrameEnd_clock (l : LaneId) (p : Part) : (flowFrameEnd l p).clock = p.clock := by
  unfold flowFrameEnd
  (repeat' split) <;> simp
@[simp] theorem flowFrameEnd_idleSpan (l : LaneId) (p : Part) : (flowFrameEnd l p).idleSpan = p.idleSpan := by
  unfold flowFrameEnd
  (repeat' split) <;> simp
@[simp] theorem flowFrameEnd_freeUses (l : LaneId) (p : Part) : (flowFrameEnd l p).freeUses = p.freeUses := by
  unfold flowFrameEnd
  (repeat' split) <;> simp
@[simp] theorem flowFrameEnd_pins (l : LaneId) (p : Part) : (flowFrameEnd l p).pins = p.pins := by
  unfold flowFrameEnd
  (repeat' split) <;> simp
@[simp] theorem flowFrameEnd_straps (l : LaneId) (p : Part) : (flowFrameEnd l p).straps = p.straps := by
  unfold flowFrameEnd
  (repeat' split) <;> simp
@[simp] theorem flowFrameEnd_lastReset (l : LaneId) (p : Part) : (flowFrameEnd l p).lastReset = p.lastReset := by
  unfold flowFrameEnd
  (repeat' split) <;> simp
@[simp] theorem flowFrameEnd_filing (l : LaneId) (p : Part) : (flowFrameEnd l p).filing = p.filing := by
  unfold flowFrameEnd
  (repeat' split) <;> simp
@[simp] theorem flowFrameEnd_portA (l : LaneId) (p : Part) : (flowFrameEnd l p).portA = p.portA := by
  unfold flowFrameEnd
  (repeat' split) <;> simp
@[simp] theorem flowFrameEnd_portB (l : LaneId) (p : Part) : (flowFrameEnd l p).portB = p.portB := by
  unfold flowFrameEnd
  (repeat' split) <;> simp
@[simp] theorem flowFrameEnd_timeBase (l : LaneId) (p : Part) : (flowFrameEnd l p).timeBase = p.timeBase := by
  unfold flowFrameEnd
  (repeat' split) <;> simp
@[simp] theorem flowFrameEnd_streams (l : LaneId) (p : Part) : (flowFrameEnd l p).streams = p.streams := by
  unfold flowFrameEnd
  (repeat' split) <;> simp
@[simp] theorem flowFrameEnd_engine (l : LaneId) (p : Part) : (flowFrameEnd l p).engine = p.engine := by
  unfold flowFrameEnd
  (repeat' split) <;> simp
@[simp] theorem flowFrameEnd_sorter (l : LaneId) (p : Part) : (flowFrameEnd l p).sorter = p.sorter := by
  unfold flowFrameEnd
  (repeat' split) <;> simp
@[simp] theorem flowFrameEnd_store (l : LaneId) (p : Part) : (flowFrameEnd l p).store = p.store := by
  unfold flowFrameEnd
  (repeat' split) <;> simp
@[simp] theorem flowFrameEnd_egress (l : LaneId) (p : Part) : (flowFrameEnd l p).egress = p.egress := by
  unfold flowFrameEnd
  (repeat' split) <;> simp

@[simp] theorem endGood_clock (l : LaneId) (c : Option Nat) (n : Nat) (p : Part) : (endGood l c n p).clock = p.clock := by
  unfold endGood
  (repeat' split) <;> simp
@[simp] theorem endGood_idleSpan (l : LaneId) (c : Option Nat) (n : Nat) (p : Part) : (endGood l c n p).idleSpan = p.idleSpan := by
  unfold endGood
  (repeat' split) <;> simp
@[simp] theorem endGood_freeUses (l : LaneId) (c : Option Nat) (n : Nat) (p : Part) : (endGood l c n p).freeUses = p.freeUses := by
  unfold endGood
  (repeat' split) <;> simp
@[simp] theorem endGood_pins (l : LaneId) (c : Option Nat) (n : Nat) (p : Part) : (endGood l c n p).pins = p.pins := by
  unfold endGood
  (repeat' split) <;> simp
@[simp] theorem endGood_straps (l : LaneId) (c : Option Nat) (n : Nat) (p : Part) : (endGood l c n p).straps = p.straps := by
  unfold endGood
  (repeat' split) <;> simp
@[simp] theorem endGood_lastReset (l : LaneId) (c : Option Nat) (n : Nat) (p : Part) : (endGood l c n p).lastReset = p.lastReset := by
  unfold endGood
  (repeat' split) <;> simp
@[simp] theorem endGood_filing (l : LaneId) (c : Option Nat) (n : Nat) (p : Part) : (endGood l c n p).filing = p.filing := by
  unfold endGood
  (repeat' split) <;> simp
@[simp] theorem endGood_portA (l : LaneId) (c : Option Nat) (n : Nat) (p : Part) : (endGood l c n p).portA = p.portA := by
  unfold endGood
  (repeat' split) <;> simp
@[simp] theorem endGood_portB (l : LaneId) (c : Option Nat) (n : Nat) (p : Part) : (endGood l c n p).portB = p.portB := by
  unfold endGood
  (repeat' split) <;> simp
@[simp] theorem endGood_timeBase (l : LaneId) (c : Option Nat) (n : Nat) (p : Part) : (endGood l c n p).timeBase = p.timeBase := by
  unfold endGood
  (repeat' split) <;> simp
@[simp] theorem endGood_streams (l : LaneId) (c : Option Nat) (n : Nat) (p : Part) : (endGood l c n p).streams = p.streams := by
  unfold endGood
  (repeat' split) <;> simp
@[simp] theorem endGood_engine (l : LaneId) (c : Option Nat) (n : Nat) (p : Part) : (endGood l c n p).engine = p.engine := by
  unfold endGood
  (repeat' split) <;> simp
@[simp] theorem endGood_sorter (l : LaneId) (c : Option Nat) (n : Nat) (p : Part) : (endGood l c n p).sorter = p.sorter := by
  unfold endGood
  (repeat' split) <;> simp
@[simp] theorem endGood_egress (l : LaneId) (c : Option Nat) (n : Nat) (p : Part) : (endGood l c n p).egress = p.egress := by
  unfold endGood
  (repeat' split) <;> simp

@[simp] theorem laneEvent_clock (l : LaneId) (p : Part) (ev : RxEvent) : (laneEvent l p ev).clock = p.clock := by
  unfold laneEvent
  (repeat' split) <;> simp
@[simp] theorem laneEvent_idleSpan (l : LaneId) (p : Part) (ev : RxEvent) : (laneEvent l p ev).idleSpan = p.idleSpan := by
  unfold laneEvent
  (repeat' split) <;> simp
@[simp] theorem laneEvent_freeUses (l : LaneId) (p : Part) (ev : RxEvent) : (laneEvent l p ev).freeUses = p.freeUses := by
  unfold laneEvent
  (repeat' split) <;> simp
@[simp] theorem laneEvent_pins (l : LaneId) (p : Part) (ev : RxEvent) : (laneEvent l p ev).pins = p.pins := by
  unfold laneEvent
  (repeat' split) <;> simp
@[simp] theorem laneEvent_straps (l : LaneId) (p : Part) (ev : RxEvent) : (laneEvent l p ev).straps = p.straps := by
  unfold laneEvent
  (repeat' split) <;> simp
@[simp] theorem laneEvent_lastReset (l : LaneId) (p : Part) (ev : RxEvent) : (laneEvent l p ev).lastReset = p.lastReset := by
  unfold laneEvent
  (repeat' split) <;> simp
@[simp] theorem laneEvent_filing (l : LaneId) (p : Part) (ev : RxEvent) : (laneEvent l p ev).filing = p.filing := by
  unfold laneEvent
  (repeat' split) <;> simp
@[simp] theorem laneEvent_portA (l : LaneId) (p : Part) (ev : RxEvent) : (laneEvent l p ev).portA = p.portA := by
  unfold laneEvent
  (repeat' split) <;> simp
@[simp] theorem laneEvent_portB (l : LaneId) (p : Part) (ev : RxEvent) : (laneEvent l p ev).portB = p.portB := by
  unfold laneEvent
  (repeat' split) <;> simp
@[simp] theorem laneEvent_timeBase (l : LaneId) (p : Part) (ev : RxEvent) : (laneEvent l p ev).timeBase = p.timeBase := by
  unfold laneEvent
  (repeat' split) <;> simp
@[simp] theorem laneEvent_streams (l : LaneId) (p : Part) (ev : RxEvent) : (laneEvent l p ev).streams = p.streams := by
  unfold laneEvent
  (repeat' split) <;> simp
@[simp] theorem laneEvent_engine (l : LaneId) (p : Part) (ev : RxEvent) : (laneEvent l p ev).engine = p.engine := by
  unfold laneEvent
  (repeat' split) <;> simp
@[simp] theorem laneEvent_sorter (l : LaneId) (p : Part) (ev : RxEvent) : (laneEvent l p ev).sorter = p.sorter := by
  unfold laneEvent
  (repeat' split) <;> simp
@[simp] theorem laneEvent_egress (l : LaneId) (p : Part) (ev : RxEvent) : (laneEvent l p ev).egress = p.egress := by
  unfold laneEvent
  (repeat' split) <;> simp

@[simp] theorem laneEvents_clock (l : LaneId) (evs : List RxEvent) (p : Part) : (evs.foldl (laneEvent l) p).clock = p.clock := by
  induction evs generalizing p with
  | nil => rfl
  | cons e evs ih => simp [ih]
@[simp] theorem laneEvents_idleSpan (l : LaneId) (evs : List RxEvent) (p : Part) : (evs.foldl (laneEvent l) p).idleSpan = p.idleSpan := by
  induction evs generalizing p with
  | nil => rfl
  | cons e evs ih => simp [ih]
@[simp] theorem laneEvents_freeUses (l : LaneId) (evs : List RxEvent) (p : Part) : (evs.foldl (laneEvent l) p).freeUses = p.freeUses := by
  induction evs generalizing p with
  | nil => rfl
  | cons e evs ih => simp [ih]
@[simp] theorem laneEvents_pins (l : LaneId) (evs : List RxEvent) (p : Part) : (evs.foldl (laneEvent l) p).pins = p.pins := by
  induction evs generalizing p with
  | nil => rfl
  | cons e evs ih => simp [ih]
@[simp] theorem laneEvents_straps (l : LaneId) (evs : List RxEvent) (p : Part) : (evs.foldl (laneEvent l) p).straps = p.straps := by
  induction evs generalizing p with
  | nil => rfl
  | cons e evs ih => simp [ih]
@[simp] theorem laneEvents_lastReset (l : LaneId) (evs : List RxEvent) (p : Part) : (evs.foldl (laneEvent l) p).lastReset = p.lastReset := by
  induction evs generalizing p with
  | nil => rfl
  | cons e evs ih => simp [ih]
@[simp] theorem laneEvents_filing (l : LaneId) (evs : List RxEvent) (p : Part) : (evs.foldl (laneEvent l) p).filing = p.filing := by
  induction evs generalizing p with
  | nil => rfl
  | cons e evs ih => simp [ih]
@[simp] theorem laneEvents_portA (l : LaneId) (evs : List RxEvent) (p : Part) : (evs.foldl (laneEvent l) p).portA = p.portA := by
  induction evs generalizing p with
  | nil => rfl
  | cons e evs ih => simp [ih]
@[simp] theorem laneEvents_portB (l : LaneId) (evs : List RxEvent) (p : Part) : (evs.foldl (laneEvent l) p).portB = p.portB := by
  induction evs generalizing p with
  | nil => rfl
  | cons e evs ih => simp [ih]
@[simp] theorem laneEvents_timeBase (l : LaneId) (evs : List RxEvent) (p : Part) : (evs.foldl (laneEvent l) p).timeBase = p.timeBase := by
  induction evs generalizing p with
  | nil => rfl
  | cons e evs ih => simp [ih]
@[simp] theorem laneEvents_streams (l : LaneId) (evs : List RxEvent) (p : Part) : (evs.foldl (laneEvent l) p).streams = p.streams := by
  induction evs generalizing p with
  | nil => rfl
  | cons e evs ih => simp [ih]
@[simp] theorem laneEvents_engine (l : LaneId) (evs : List RxEvent) (p : Part) : (evs.foldl (laneEvent l) p).engine = p.engine := by
  induction evs generalizing p with
  | nil => rfl
  | cons e evs ih => simp [ih]
@[simp] theorem laneEvents_sorter (l : LaneId) (evs : List RxEvent) (p : Part) : (evs.foldl (laneEvent l) p).sorter = p.sorter := by
  induction evs generalizing p with
  | nil => rfl
  | cons e evs ih => simp [ih]
@[simp] theorem laneEvents_egress (l : LaneId) (evs : List RxEvent) (p : Part) : (evs.foldl (laneEvent l) p).egress = p.egress := by
  induction evs generalizing p with
  | nil => rfl
  | cons e evs ih => simp [ih]

@[simp] theorem laneByte_clock (l : LaneId) (b : Byte) (p : Part) : (laneByte l b p).clock = p.clock := by
  unfold laneByte
  (repeat' split) <;> simp
@[simp] theorem laneByte_idleSpan (l : LaneId) (b : Byte) (p : Part) : (laneByte l b p).idleSpan = p.idleSpan := by
  unfold laneByte
  (repeat' split) <;> simp
@[simp] theorem laneByte_freeUses (l : LaneId) (b : Byte) (p : Part) : (laneByte l b p).freeUses = p.freeUses := by
  unfold laneByte
  (repeat' split) <;> simp
@[simp] theorem laneByte_pins (l : LaneId) (b : Byte) (p : Part) : (laneByte l b p).pins = p.pins := by
  unfold laneByte
  (repeat' split) <;> simp
@[simp] theorem laneByte_straps (l : LaneId) (b : Byte) (p : Part) : (laneByte l b p).straps = p.straps := by
  unfold laneByte
  (repeat' split) <;> simp
@[simp] theorem laneByte_lastReset (l : LaneId) (b : Byte) (p : Part) : (laneByte l b p).lastReset = p.lastReset := by
  unfold laneByte
  (repeat' split) <;> simp
@[simp] theorem laneByte_filing (l : LaneId) (b : Byte) (p : Part) : (laneByte l b p).filing = p.filing := by
  unfold laneByte
  (repeat' split) <;> simp
@[simp] theorem laneByte_portA (l : LaneId) (b : Byte) (p : Part) : (laneByte l b p).portA = p.portA := by
  unfold laneByte
  (repeat' split) <;> simp
@[simp] theorem laneByte_portB (l : LaneId) (b : Byte) (p : Part) : (laneByte l b p).portB = p.portB := by
  unfold laneByte
  (repeat' split) <;> simp
@[simp] theorem laneByte_timeBase (l : LaneId) (b : Byte) (p : Part) : (laneByte l b p).timeBase = p.timeBase := by
  unfold laneByte
  (repeat' split) <;> simp
@[simp] theorem laneByte_streams (l : LaneId) (b : Byte) (p : Part) : (laneByte l b p).streams = p.streams := by
  unfold laneByte
  (repeat' split) <;> simp
@[simp] theorem laneByte_engine (l : LaneId) (b : Byte) (p : Part) : (laneByte l b p).engine = p.engine := by
  unfold laneByte
  (repeat' split) <;> simp
@[simp] theorem laneByte_sorter (l : LaneId) (b : Byte) (p : Part) : (laneByte l b p).sorter = p.sorter := by
  unfold laneByte
  (repeat' split) <;> simp
@[simp] theorem laneByte_egress (l : LaneId) (b : Byte) (p : Part) : (laneByte l b p).egress = p.egress := by
  unfold laneByte
  (repeat' split) <;> simp

@[simp] theorem laneGap_clock (l : LaneId) (p : Part) : (laneGap l p).clock = p.clock := by
  unfold laneGap
  dsimp only
  (repeat' split) <;> simp
@[simp] theorem laneGap_idleSpan (l : LaneId) (p : Part) : (laneGap l p).idleSpan = p.idleSpan := by
  unfold laneGap
  dsimp only
  (repeat' split) <;> simp
@[simp] theorem laneGap_freeUses (l : LaneId) (p : Part) : (laneGap l p).freeUses = p.freeUses := by
  unfold laneGap
  dsimp only
  (repeat' split) <;> simp
@[simp] theorem laneGap_pins (l : LaneId) (p : Part) : (laneGap l p).pins = p.pins := by
  unfold laneGap
  dsimp only
  (repeat' split) <;> simp
@[simp] theorem laneGap_straps (l : LaneId) (p : Part) : (laneGap l p).straps = p.straps := by
  unfold laneGap
  dsimp only
  (repeat' split) <;> simp
@[simp] theorem laneGap_lastReset (l : LaneId) (p : Part) : (laneGap l p).lastReset = p.lastReset := by
  unfold laneGap
  dsimp only
  (repeat' split) <;> simp
@[simp] theorem laneGap_filing (l : LaneId) (p : Part) : (laneGap l p).filing = p.filing := by
  unfold laneGap
  dsimp only
  (repeat' split) <;> simp
@[simp] theorem laneGap_portA (l : LaneId) (p : Part) : (laneGap l p).portA = p.portA := by
  unfold laneGap
  dsimp only
  (repeat' split) <;> simp
@[simp] theorem laneGap_portB (l : LaneId) (p : Part) : (laneGap l p).portB = p.portB := by
  unfold laneGap
  dsimp only
  (repeat' split) <;> simp
@[simp] theorem laneGap_timeBase (l : LaneId) (p : Part) : (laneGap l p).timeBase = p.timeBase := by
  unfold laneGap
  dsimp only
  (repeat' split) <;> simp
@[simp] theorem laneGap_streams (l : LaneId) (p : Part) : (laneGap l p).streams = p.streams := by
  unfold laneGap
  dsimp only
  (repeat' split) <;> simp
@[simp] theorem laneGap_engine (l : LaneId) (p : Part) : (laneGap l p).engine = p.engine := by
  unfold laneGap
  dsimp only
  (repeat' split) <;> simp
@[simp] theorem laneGap_sorter (l : LaneId) (p : Part) : (laneGap l p).sorter = p.sorter := by
  unfold laneGap
  dsimp only
  (repeat' split) <;> simp
@[simp] theorem laneGap_egress (l : LaneId) (p : Part) : (laneGap l p).egress = p.egress := by
  unfold laneGap
  dsimp only
  (repeat' split) <;> simp

@[simp] theorem abandonFrame_clock (l : LaneId) (p : Part) : (abandonFrame l p).clock = p.clock := by
  unfold abandonFrame
  dsimp only
  (repeat' split) <;> simp
@[simp] theorem abandonFrame_idleSpan (l : LaneId) (p : Part) : (abandonFrame l p).idleSpan = p.idleSpan := by
  unfold abandonFrame
  dsimp only
  (repeat' split) <;> simp
@[simp] theorem abandonFrame_freeUses (l : LaneId) (p : Part) : (abandonFrame l p).freeUses = p.freeUses := by
  unfold abandonFrame
  dsimp only
  (repeat' split) <;> simp
@[simp] theorem abandonFrame_pins (l : LaneId) (p : Part) : (abandonFrame l p).pins = p.pins := by
  unfold abandonFrame
  dsimp only
  (repeat' split) <;> simp
@[simp] theorem abandonFrame_straps (l : LaneId) (p : Part) : (abandonFrame l p).straps = p.straps := by
  unfold abandonFrame
  dsimp only
  (repeat' split) <;> simp
@[simp] theorem abandonFrame_lastReset (l : LaneId) (p : Part) : (abandonFrame l p).lastReset = p.lastReset := by
  unfold abandonFrame
  dsimp only
  (repeat' split) <;> simp
@[simp] theorem abandonFrame_filing (l : LaneId) (p : Part) : (abandonFrame l p).filing = p.filing := by
  unfold abandonFrame
  dsimp only
  (repeat' split) <;> simp
@[simp] theorem abandonFrame_portA (l : LaneId) (p : Part) : (abandonFrame l p).portA = p.portA := by
  unfold abandonFrame
  dsimp only
  (repeat' split) <;> simp
@[simp] theorem abandonFrame_portB (l : LaneId) (p : Part) : (abandonFrame l p).portB = p.portB := by
  unfold abandonFrame
  dsimp only
  (repeat' split) <;> simp
@[simp] theorem abandonFrame_timeBase (l : LaneId) (p : Part) : (abandonFrame l p).timeBase = p.timeBase := by
  unfold abandonFrame
  dsimp only
  (repeat' split) <;> simp
@[simp] theorem abandonFrame_streams (l : LaneId) (p : Part) : (abandonFrame l p).streams = p.streams := by
  unfold abandonFrame
  dsimp only
  (repeat' split) <;> simp
@[simp] theorem abandonFrame_engine (l : LaneId) (p : Part) : (abandonFrame l p).engine = p.engine := by
  unfold abandonFrame
  dsimp only
  (repeat' split) <;> simp
@[simp] theorem abandonFrame_sorter (l : LaneId) (p : Part) : (abandonFrame l p).sorter = p.sorter := by
  unfold abandonFrame
  dsimp only
  (repeat' split) <;> simp
@[simp] theorem abandonFrame_egress (l : LaneId) (p : Part) : (abandonFrame l p).egress = p.egress := by
  unfold abandonFrame
  dsimp only
  (repeat' split) <;> simp
@[simp] theorem abandonFrame_control (l : LaneId) (p : Part) : (abandonFrame l p).control = p.control := by
  unfold abandonFrame
  dsimp only
  (repeat' split) <;> simp
@[simp] theorem abandonFrame_attention (l : LaneId) (p : Part) : (abandonFrame l p).attention = p.attention := by
  unfold abandonFrame
  dsimp only
  (repeat' split) <;> simp

@[simp] theorem abandonFrames_clock (p : Part) : (abandonFrames p).clock = p.clock := by simp [abandonFrames]
@[simp] theorem abandonFrames_idleSpan (p : Part) : (abandonFrames p).idleSpan = p.idleSpan := by simp [abandonFrames]
@[simp] theorem abandonFrames_freeUses (p : Part) : (abandonFrames p).freeUses = p.freeUses := by simp [abandonFrames]
@[simp] theorem abandonFrames_pins (p : Part) : (abandonFrames p).pins = p.pins := by simp [abandonFrames]
@[simp] theorem abandonFrames_straps (p : Part) : (abandonFrames p).straps = p.straps := by simp [abandonFrames]
@[simp] theorem abandonFrames_lastReset (p : Part) : (abandonFrames p).lastReset = p.lastReset := by simp [abandonFrames]
@[simp] theorem abandonFrames_filing (p : Part) : (abandonFrames p).filing = p.filing := by simp [abandonFrames]
@[simp] theorem abandonFrames_portA (p : Part) : (abandonFrames p).portA = p.portA := by simp [abandonFrames]
@[simp] theorem abandonFrames_portB (p : Part) : (abandonFrames p).portB = p.portB := by simp [abandonFrames]
@[simp] theorem abandonFrames_timeBase (p : Part) : (abandonFrames p).timeBase = p.timeBase := by simp [abandonFrames]
@[simp] theorem abandonFrames_streams (p : Part) : (abandonFrames p).streams = p.streams := by simp [abandonFrames]
@[simp] theorem abandonFrames_engine (p : Part) : (abandonFrames p).engine = p.engine := by simp [abandonFrames]
@[simp] theorem abandonFrames_sorter (p : Part) : (abandonFrames p).sorter = p.sorter := by simp [abandonFrames]
@[simp] theorem abandonFrames_egress (p : Part) : (abandonFrames p).egress = p.egress := by simp [abandonFrames]
@[simp] theorem abandonFrames_control (p : Part) : (abandonFrames p).control = p.control := by simp [abandonFrames]
@[simp] theorem abandonFrames_attention (p : Part) : (abandonFrames p).attention = p.attention := by simp [abandonFrames]

@[simp] theorem disableLane_clock (l : LaneId) (p : Part) : (disableLane l p).clock = p.clock := by simp [disableLane]
@[simp] theorem disableLane_idleSpan (l : LaneId) (p : Part) : (disableLane l p).idleSpan = p.idleSpan := by simp [disableLane]
@[simp] theorem disableLane_freeUses (l : LaneId) (p : Part) : (disableLane l p).freeUses = p.freeUses := by simp [disableLane]
@[simp] theorem disableLane_pins (l : LaneId) (p : Part) : (disableLane l p).pins = p.pins := by simp [disableLane]
@[simp] theorem disableLane_straps (l : LaneId) (p : Part) : (disableLane l p).straps = p.straps := by simp [disableLane]
@[simp] theorem disableLane_lastReset (l : LaneId) (p : Part) : (disableLane l p).lastReset = p.lastReset := by simp [disableLane]
@[simp] theorem disableLane_filing (l : LaneId) (p : Part) : (disableLane l p).filing = p.filing := by simp [disableLane]
@[simp] theorem disableLane_portA (l : LaneId) (p : Part) : (disableLane l p).portA = p.portA := by simp [disableLane]
@[simp] theorem disableLane_portB (l : LaneId) (p : Part) : (disableLane l p).portB = p.portB := by simp [disableLane]
@[simp] theorem disableLane_timeBase (l : LaneId) (p : Part) : (disableLane l p).timeBase = p.timeBase := by simp [disableLane]
@[simp] theorem disableLane_streams (l : LaneId) (p : Part) : (disableLane l p).streams = p.streams := by simp [disableLane]
@[simp] theorem disableLane_engine (l : LaneId) (p : Part) : (disableLane l p).engine = p.engine := by simp [disableLane]
@[simp] theorem disableLane_sorter (l : LaneId) (p : Part) : (disableLane l p).sorter = p.sorter := by simp [disableLane]
@[simp] theorem disableLane_egress (l : LaneId) (p : Part) : (disableLane l p).egress = p.egress := by simp [disableLane]

@[simp] theorem configureLane_clock (l : LaneId) (on : Bool) (h w g : Nat) (p : Part) : (configureLane l on h w g p).clock = p.clock := by
  unfold configureLane
  dsimp only
  (repeat' split) <;> simp
@[simp] theorem configureLane_idleSpan (l : LaneId) (on : Bool) (h w g : Nat) (p : Part) : (configureLane l on h w g p).idleSpan = p.idleSpan := by
  unfold configureLane
  dsimp only
  (repeat' split) <;> simp
@[simp] theorem configureLane_freeUses (l : LaneId) (on : Bool) (h w g : Nat) (p : Part) : (configureLane l on h w g p).freeUses = p.freeUses := by
  unfold configureLane
  dsimp only
  (repeat' split) <;> simp
@[simp] theorem configureLane_pins (l : LaneId) (on : Bool) (h w g : Nat) (p : Part) : (configureLane l on h w g p).pins = p.pins := by
  unfold configureLane
  dsimp only
  (repeat' split) <;> simp
@[simp] theorem configureLane_straps (l : LaneId) (on : Bool) (h w g : Nat) (p : Part) : (configureLane l on h w g p).straps = p.straps := by
  unfold configureLane
  dsimp only
  (repeat' split) <;> simp
@[simp] theorem configureLane_lastReset (l : LaneId) (on : Bool) (h w g : Nat) (p : Part) : (configureLane l on h w g p).lastReset = p.lastReset := by
  unfold configureLane
  dsimp only
  (repeat' split) <;> simp
@[simp] theorem configureLane_filing (l : LaneId) (on : Bool) (h w g : Nat) (p : Part) : (configureLane l on h w g p).filing = p.filing := by
  unfold configureLane
  dsimp only
  (repeat' split) <;> simp
@[simp] theorem configureLane_portA (l : LaneId) (on : Bool) (h w g : Nat) (p : Part) : (configureLane l on h w g p).portA = p.portA := by
  unfold configureLane
  dsimp only
  (repeat' split) <;> simp
@[simp] theorem configureLane_portB (l : LaneId) (on : Bool) (h w g : Nat) (p : Part) : (configureLane l on h w g p).portB = p.portB := by
  unfold configureLane
  dsimp only
  (repeat' split) <;> simp
@[simp] theorem configureLane_timeBase (l : LaneId) (on : Bool) (h w g : Nat) (p : Part) : (configureLane l on h w g p).timeBase = p.timeBase := by
  unfold configureLane
  dsimp only
  (repeat' split) <;> simp
@[simp] theorem configureLane_streams (l : LaneId) (on : Bool) (h w g : Nat) (p : Part) : (configureLane l on h w g p).streams = p.streams := by
  unfold configureLane
  dsimp only
  (repeat' split) <;> simp
@[simp] theorem configureLane_engine (l : LaneId) (on : Bool) (h w g : Nat) (p : Part) : (configureLane l on h w g p).engine = p.engine := by
  unfold configureLane
  dsimp only
  (repeat' split) <;> simp
@[simp] theorem configureLane_sorter (l : LaneId) (on : Bool) (h w g : Nat) (p : Part) : (configureLane l on h w g p).sorter = p.sorter := by
  unfold configureLane
  dsimp only
  (repeat' split) <;> simp
@[simp] theorem configureLane_egress (l : LaneId) (on : Bool) (h w g : Nat) (p : Part) : (configureLane l on h w g p).egress = p.egress := by
  unfold configureLane
  dsimp only
  (repeat' split) <;> simp

@[simp] theorem setCarrier_clock (l : LaneId) (v : Bool) (p : Part) : (Part.setCarrier l v p).clock = p.clock := rfl
@[simp] theorem setCarrier_idleSpan (l : LaneId) (v : Bool) (p : Part) : (Part.setCarrier l v p).idleSpan = p.idleSpan := rfl
@[simp] theorem setCarrier_freeUses (l : LaneId) (v : Bool) (p : Part) : (Part.setCarrier l v p).freeUses = p.freeUses := rfl
@[simp] theorem setCarrier_straps (l : LaneId) (v : Bool) (p : Part) : (Part.setCarrier l v p).straps = p.straps := rfl
@[simp] theorem setCarrier_lastReset (l : LaneId) (v : Bool) (p : Part) : (Part.setCarrier l v p).lastReset = p.lastReset := rfl
@[simp] theorem setCarrier_filing (l : LaneId) (v : Bool) (p : Part) : (Part.setCarrier l v p).filing = p.filing := rfl
@[simp] theorem setCarrier_portA (l : LaneId) (v : Bool) (p : Part) : (Part.setCarrier l v p).portA = p.portA := rfl
@[simp] theorem setCarrier_portB (l : LaneId) (v : Bool) (p : Part) : (Part.setCarrier l v p).portB = p.portB := rfl
@[simp] theorem setCarrier_timeBase (l : LaneId) (v : Bool) (p : Part) : (Part.setCarrier l v p).timeBase = p.timeBase := rfl
@[simp] theorem setCarrier_streams (l : LaneId) (v : Bool) (p : Part) : (Part.setCarrier l v p).streams = p.streams := rfl
@[simp] theorem setCarrier_engine (l : LaneId) (v : Bool) (p : Part) : (Part.setCarrier l v p).engine = p.engine := rfl
@[simp] theorem setCarrier_sorter (l : LaneId) (v : Bool) (p : Part) : (Part.setCarrier l v p).sorter = p.sorter := rfl
@[simp] theorem setCarrier_lanes (l : LaneId) (v : Bool) (p : Part) : (Part.setCarrier l v p).lanes = p.lanes := rfl
@[simp] theorem setCarrier_store (l : LaneId) (v : Bool) (p : Part) : (Part.setCarrier l v p).store = p.store := rfl
@[simp] theorem setCarrier_egress (l : LaneId) (v : Bool) (p : Part) : (Part.setCarrier l v p).egress = p.egress := rfl
@[simp] theorem setCarrier_control (l : LaneId) (v : Bool) (p : Part) : (Part.setCarrier l v p).control = p.control := rfl
@[simp] theorem setCarrier_attention (l : LaneId) (v : Bool) (p : Part) : (Part.setCarrier l v p).attention = p.attention := rfl

@[simp] theorem carrierChange_clock (l : LaneId) (v : Bool) (p : Part) : (carrierChange l v p).clock = p.clock := by
  unfold carrierChange
  (repeat' split) <;> simp
@[simp] theorem carrierChange_idleSpan (l : LaneId) (v : Bool) (p : Part) : (carrierChange l v p).idleSpan = p.idleSpan := by
  unfold carrierChange
  (repeat' split) <;> simp
@[simp] theorem carrierChange_freeUses (l : LaneId) (v : Bool) (p : Part) : (carrierChange l v p).freeUses = p.freeUses := by
  unfold carrierChange
  (repeat' split) <;> simp
@[simp] theorem carrierChange_straps (l : LaneId) (v : Bool) (p : Part) : (carrierChange l v p).straps = p.straps := by
  unfold carrierChange
  (repeat' split) <;> simp
@[simp] theorem carrierChange_lastReset (l : LaneId) (v : Bool) (p : Part) : (carrierChange l v p).lastReset = p.lastReset := by
  unfold carrierChange
  (repeat' split) <;> simp
@[simp] theorem carrierChange_filing (l : LaneId) (v : Bool) (p : Part) : (carrierChange l v p).filing = p.filing := by
  unfold carrierChange
  (repeat' split) <;> simp
@[simp] theorem carrierChange_portA (l : LaneId) (v : Bool) (p : Part) : (carrierChange l v p).portA = p.portA := by
  unfold carrierChange
  (repeat' split) <;> simp
@[simp] theorem carrierChange_portB (l : LaneId) (v : Bool) (p : Part) : (carrierChange l v p).portB = p.portB := by
  unfold carrierChange
  (repeat' split) <;> simp
@[simp] theorem carrierChange_timeBase (l : LaneId) (v : Bool) (p : Part) : (carrierChange l v p).timeBase = p.timeBase := by
  unfold carrierChange
  (repeat' split) <;> simp
@[simp] theorem carrierChange_streams (l : LaneId) (v : Bool) (p : Part) : (carrierChange l v p).streams = p.streams := by
  unfold carrierChange
  (repeat' split) <;> simp
@[simp] theorem carrierChange_engine (l : LaneId) (v : Bool) (p : Part) : (carrierChange l v p).engine = p.engine := by
  unfold carrierChange
  (repeat' split) <;> simp
@[simp] theorem carrierChange_sorter (l : LaneId) (v : Bool) (p : Part) : (carrierChange l v p).sorter = p.sorter := by
  unfold carrierChange
  (repeat' split) <;> simp
@[simp] theorem carrierChange_store (l : LaneId) (v : Bool) (p : Part) : (carrierChange l v p).store = p.store := by
  unfold carrierChange
  (repeat' split) <;> simp
@[simp] theorem carrierChange_egress (l : LaneId) (v : Bool) (p : Part) : (carrierChange l v p).egress = p.egress := by
  unfold carrierChange
  (repeat' split) <;> simp

@[simp] theorem setLoopback_clock (l : LaneId) (on : Bool) (p : Part) : (setLoopback l on p).clock = p.clock := by
  unfold setLoopback
  (repeat' split) <;> simp
@[simp] theorem setLoopback_idleSpan (l : LaneId) (on : Bool) (p : Part) : (setLoopback l on p).idleSpan = p.idleSpan := by
  unfold setLoopback
  (repeat' split) <;> simp
@[simp] theorem setLoopback_freeUses (l : LaneId) (on : Bool) (p : Part) : (setLoopback l on p).freeUses = p.freeUses := by
  unfold setLoopback
  (repeat' split) <;> simp
@[simp] theorem setLoopback_pins (l : LaneId) (on : Bool) (p : Part) : (setLoopback l on p).pins = p.pins := by
  unfold setLoopback
  (repeat' split) <;> simp
@[simp] theorem setLoopback_straps (l : LaneId) (on : Bool) (p : Part) : (setLoopback l on p).straps = p.straps := by
  unfold setLoopback
  (repeat' split) <;> simp
@[simp] theorem setLoopback_lastReset (l : LaneId) (on : Bool) (p : Part) : (setLoopback l on p).lastReset = p.lastReset := by
  unfold setLoopback
  (repeat' split) <;> simp
@[simp] theorem setLoopback_filing (l : LaneId) (on : Bool) (p : Part) : (setLoopback l on p).filing = p.filing := by
  unfold setLoopback
  (repeat' split) <;> simp
@[simp] theorem setLoopback_portA (l : LaneId) (on : Bool) (p : Part) : (setLoopback l on p).portA = p.portA := by
  unfold setLoopback
  (repeat' split) <;> simp
@[simp] theorem setLoopback_portB (l : LaneId) (on : Bool) (p : Part) : (setLoopback l on p).portB = p.portB := by
  unfold setLoopback
  (repeat' split) <;> simp
@[simp] theorem setLoopback_timeBase (l : LaneId) (on : Bool) (p : Part) : (setLoopback l on p).timeBase = p.timeBase := by
  unfold setLoopback
  (repeat' split) <;> simp
@[simp] theorem setLoopback_streams (l : LaneId) (on : Bool) (p : Part) : (setLoopback l on p).streams = p.streams := by
  unfold setLoopback
  (repeat' split) <;> simp
@[simp] theorem setLoopback_engine (l : LaneId) (on : Bool) (p : Part) : (setLoopback l on p).engine = p.engine := by
  unfold setLoopback
  (repeat' split) <;> simp
@[simp] theorem setLoopback_sorter (l : LaneId) (on : Bool) (p : Part) : (setLoopback l on p).sorter = p.sorter := by
  unfold setLoopback
  (repeat' split) <;> simp
@[simp] theorem setLoopback_egress (l : LaneId) (on : Bool) (p : Part) : (setLoopback l on p).egress = p.egress := by
  unfold setLoopback
  (repeat' split) <;> simp

end Sys2Proof.Machine
end

