-- ==== Sys2Proof/Laws/Flow.lean ====
section
/-! SUPPORT. Flow control in the words of the statements: what testing R114 and evaluating R113 leave in a lane, and when
the sorter is held. -/

namespace Sys2Proof.Machine

/-- Testing R114 leaves in the lane what `Lane.tested` says. -/
theorem startFlow_lane (l : LaneId) (p : Part) :
    (startFlow l p).lane l = Lane.tested (p.pins.isolate || p.pins.resetLow) (p.lane l) := by
  unfold startFlow Lane.tested Lane.mayStart Lane.due Lane.start setLaneDelta
  cases hf : (p.lane l).flow <;> cases hl : (p.lane l).flowTx <;> cases ho : (p.lane l).loopback <;>
    dsimp only <;> (repeat' split) <;> simp_all [Part.lane, Part.onLane, raise_lanes, Lane.due]

/-- Testing R114 leaves the other lanes alone. -/
theorem startFlow_lane_other {l m : LaneId} (h : l ≠ m) (p : Part) : (startFlow l p).lane m = p.lane m := by
  unfold startFlow setLaneDelta
  (repeat' split) <;> simp [Part.lane, Part.onLane, raise_lanes, Four.get_set_other _ _ h]

/-- The flow state R113 gives is `flowAfter`. -/
theorem evalFlow_eq (x : Lane) : x.evalFlow =
    { x with flow := if x.enabled then flowAfter x.highMark x.lowMark x.queue.length x.flow else x.flow } := by
  unfold Lane.evalFlow flowAfter
  cases x with
  | mk => (repeat' split) <;> simp_all

/-- Evaluating a lane's flow: R113 and then R114. -/
theorem evalFlow_lane (l : LaneId) (p : Part) :
    (evalFlow l p).lane l = Lane.tested (p.pins.isolate || p.pins.resetLow) (p.lane l).evalFlow := by
  unfold evalFlow
  rw [startFlow_lane]
  simp [Part.lane, Part.onLane]

/-- While the sorter is held nothing is sorted. -/
theorem sort_held {p : Part} (h : p.sorterHeld = true) : sort p = p := by
  unfold sort
  simp [h]

theorem sort_isolate {p : Part} (h : p.pins.isolate = true) : sort p = p := sort_held (by simp [Part.sorterHeld, h])

end Sys2Proof.Machine
end

