-- ==== Sys2Proof/Laws/Requests.lean ====
section
/-! SUPPORT. What running a request comes to: which branch of the executor is taken, what its reply leaves unchanged, and
what one raise does to the Attention Unit. -/

namespace Sys2Proof.Machine

/-- The executor runs the request: its parameter length is allowed. -/
theorem serve_runs {code : Nat} {run : List Byte → Part → Served} {after : Part → Part} {e : RequestEntry} {p : Part}
    (h : p.Runs code e) (hl : paramsAllowed code e.params.length = some true) :
    serve code run after p =
      (if (run e.params p).status = .done then
        after (complete e (run e.params p).status (run e.params p).results (run e.params p).part)
      else complete e (run e.params p).status (run e.params p).results (run e.params p).part) := by
  obtain ⟨he, hc, hr, _⟩ := h
  simp [serve, he, hc, hr, hl]

/-- The executor runs the request, and its checks pass. -/
theorem serve_done {code : Nat} {run : List Byte → Part → Served} {after : Part → Part} {e : RequestEntry} {p q : Part}
    {res : List Byte} (h : p.Runs code e) (hl : paramsAllowed code e.params.length = some true)
    (hr : run e.params p = .done q res) : serve code run after p = after (complete e .done res q) := by
  rw [serve_runs h hl, hr]
  rfl

/-- The executor runs the request, and one of its checks fails. -/
theorem serve_refuses {code : Nat} {run : List Byte → Part → Served} {after : Part → Part} {e : RequestEntry} {p : Part}
    {st : Status} (h : p.Runs code e) (hl : paramsAllowed code e.params.length = some true)
    (hr : run e.params p = .refuse p st) (hs : st ≠ .done) : serve code run after p = complete e st [] p := by
  rw [serve_runs h hl, hr]
  simp [Served.refuse, hs]

/-- The executor refuses a request whose parameter length is not allowed. -/
theorem serve_malformed {code : Nat} {run : List Byte → Part → Served} {after : Part → Part} {e : RequestEntry} {p : Part}
    (h : p.Runs code e) (hl : paramsAllowed code e.params.length ≠ some true) :
    serve code run after p = complete e .malformed [] p := by
  obtain ⟨he, hc, hr, _⟩ := h
  simp [serve, he, hc, hr, hl]

/-- The parts of the Control Link that starting a message leaves alone. -/
@[simp] theorem startMessage_queue (p : Part) : (startMessage p).control.queue = p.control.queue := by
  unfold startMessage
  (repeat' split) <;> rfl

@[simp] theorem startMessage_rx (p : Part) : (startMessage p).control.rx = p.control.rx := by
  unfold startMessage
  (repeat' split) <;> rfl

@[simp] theorem startMessage_refusal (p : Part) : (startMessage p).control.refusal = p.control.refusal := by
  unfold startMessage
  (repeat' split) <;> rfl

@[simp] theorem startMessage_envelopeErrors (p : Part) :
    (startMessage p).control.envelopeErrors = p.control.envelopeErrors := by
  unfold startMessage
  (repeat' split) <;> rfl

@[simp] theorem startMessage_unanswered (p : Part) : (startMessage p).control.unanswered = p.control.unanswered := by
  unfold startMessage
  (repeat' split) <;> rfl

@[simp] theorem startMessage_stamp (p : Part) : (startMessage p).control.stamp = p.control.stamp := by
  unfold startMessage
  (repeat' split) <;> rfl

/-- Two parts that have the same Control Link but for a notice and a message in flight. -/
def Control.SameQueue (c d : Control) : Prop :=
  d.queue = c.queue ∧ d.rx = c.rx ∧ d.refusal = c.refusal ∧ d.envelopeErrors = c.envelopeErrors ∧
    d.unanswered = c.unanswered ∧ d.stamp = c.stamp

theorem Control.SameQueue.refl (c : Control) : c.SameQueue c := ⟨rfl, rfl, rfl, rfl, rfl, rfl⟩

theorem Control.SameQueue.trans {a b c : Control} (h : a.SameQueue b) (k : b.SameQueue c) : a.SameQueue c :=
  ⟨k.1.trans h.1, k.2.1.trans h.2.1, k.2.2.1.trans h.2.2.1, k.2.2.2.1.trans h.2.2.2.1,
    k.2.2.2.2.1.trans h.2.2.2.2.1, k.2.2.2.2.2.trans h.2.2.2.2.2⟩

theorem startMessage_same (p : Part) : p.control.SameQueue (startMessage p).control :=
  ⟨by simp, by simp, by simp, by simp, by simp, by simp⟩

theorem handNotice_same (p : Part) : p.control.SameQueue (handNotice p).control := by
  unfold handNotice
  exact Control.SameQueue.trans ⟨rfl, rfl, rfl, rfl, rfl, rfl⟩ (startMessage_same _)

theorem raise_same (c : Cause) (p : Part) : p.control.SameQueue (raise c p).control := by
  unfold raise
  split
  · exact .refl _
  · split
    · simpa using Control.SameQueue.refl p.control
    · exact Control.SameQueue.trans (by simpa using Control.SameQueue.refl p.control) (handNotice_same _)

theorem handIfDue_same (p : Part) : p.control.SameQueue (handIfDue p).control := by
  unfold handIfDue
  split
  · exact handNotice_same _
  · exact .refl _

/-- A request whose effect leaves the request queue alone is answered when it completes. -/
theorem complete_answers {e : RequestEntry} {st : Status} {res : List Byte} {p q : Part}
    (hp : q.pins = p.pins) (hc : p.control.SameQueue q.control) : Answered e st res p (complete e st res q) := by
  obtain ⟨h1, h2, h3, h4, h5, h6⟩ := hc
  refine ⟨fun h => ?_, fun h => ?_, ?_, ?_, ?_⟩
  · simp [complete, hp, h, h1, h5, h6]
  · simp [complete, hp, h, h1, h5]
  all_goals
    unfold complete
    split <;> simp [h2, h3, h4]

/-- Answering again after a notice has been handed is still the same answer. -/
theorem Answered.of_same {e : RequestEntry} {st : Status} {res : List Byte} {p q r : Part}
    (h : Answered e st res p q) (hc : q.control.SameQueue r.control) : Answered e st res p r := by
  obtain ⟨h1, h2, h3, h4, h5, h6⟩ := hc
  obtain ⟨a, b, c, d, f⟩ := h
  exact ⟨fun hi => ⟨h1.trans (a hi).1, h5.trans (a hi).2⟩, fun hi => ⟨h1.trans (b hi).1, h5.trans (b hi).2⟩,
    h2.trans c, h3.trans d, h4.trans f⟩

theorem startMessage_frame (p : Part) : startMessage p = { p with control := (startMessage p).control } := by
  unfold startMessage
  (repeat' split) <;> rfl

theorem complete_frame (e : RequestEntry) (st : Status) (res : List Byte) (p : Part) :
    complete e st res p = { p with control := (complete e st res p).control } := by
  unfold complete
  split
  · rfl
  · rw [startMessage_frame]
    rfl

theorem handNotice_frame (p : Part) :
    handNotice p = { p with control := (handNotice p).control, attention := (handNotice p).attention } := by
  unfold handNotice
  rw [startMessage_frame]
  rfl

theorem raise_frame (c : Cause) (p : Part) :
    raise c p = { p with control := (raise c p).control, attention := (raise c p).attention } := by
  unfold raise
  (repeat' split)
  · rfl
  · rfl
  · rw [handNotice_frame]
    rfl

theorem handIfDue_frame (p : Part) :
    handIfDue p = { p with control := (handIfDue p).control, attention := (handIfDue p).attention } := by
  unfold handIfDue
  split
  · exact handNotice_frame p
  · rfl

/-- What a reply and the notice that follows it leave unchanged. -/
theorem reply_frame (e : RequestEntry) (st : Status) (res : List Byte) (p : Part) :
    handIfDue (complete e st res p) = { p with
      control := (handIfDue (complete e st res p)).control
      attention := (handIfDue (complete e st res p)).attention } := by
  have h1 := handIfDue_frame (complete e st res p)
  have h2 := complete_frame e st res p
  generalize handIfDue (complete e st res p) = t at h1 ⊢
  generalize complete e st res p = x at h1 h2
  exact h1.trans (by rw [h2])

theorem handIfDue_attention (p : Part) : (handIfDue p).attention = { p.attention with
    gateOpen := p.attention.gateOpen &&
      !(!p.pins.isolate && (p.attention.pending.inter p.attention.mask).nonempty) } := by
  unfold handIfDue
  split
  · rename_i h
    simp [handNotice]
    simp_all
  · rename_i h
    obtain ⟨_, _, _, _, _, _, _, _, _, _, _, _, _, _, _, _, _, ⟨_, _, g, _⟩⟩ := p
    cases g
    · rfl
    · simp only [Bool.and_true, Bool.not_eq_true] at h
      simp only [Bool.true_and, h, Bool.not_false]

theorem CauseSet.put_of_has {s : CauseSet} {c : Cause} (h : s.has c = true) : s.put true c = s := by
  cases c <;> cases s <;> simp_all [CauseSet.has, CauseSet.put]

@[simp] theorem CauseSet.has_put_same (s : CauseSet) (v : Bool) (c : Cause) : (s.put v c).has c = v := by
  cases c <;> rfl

@[simp] theorem CauseSet.put_put (s : CauseSet) (v w : Bool) (c : Cause) : (s.put v c).put w c = s.put w c := by
  cases c <;> rfl

@[simp] theorem startMessage_attnLevel (p : Part) : attnLevel (startMessage p) = attnLevel p := by
  simp [attnLevel]

/-- What one raise does to the Attention Unit. -/
theorem raise_raised (c : Cause) (p : Part) : Raised c p (raise c p) := by
  unfold Raised raise
  split
  · rename_i h
    simp [Part.handsNotice, h, CauseSet.put_of_has h]
  · rename_i h
    split
    · rename_i hq
      refine ⟨rfl, rfl, ?_, ?_⟩
      · have : p.handsNotice c = false := by
          simp only [Part.handsNotice, h]
          revert hq
          cases p.pins.isolate <;> cases p.attention.mask.has c <;> cases p.attention.gateOpen <;> simp
        simp [this, makePending, evalAttn]
      · rfl
    · rename_i hq
      refine ⟨by simp [handNotice, makePending, evalAttn], by simp [handNotice, makePending, evalAttn], ?_, ?_⟩
      · have : p.handsNotice c = true := by
          simp only [Part.handsNotice, h]
          revert hq
          cases p.pins.isolate <;> cases p.attention.mask.has c <;> cases p.attention.gateOpen <;> simp
        simp [handNotice, this]
      · simp [handNotice, makePending, evalAttn, attnLevel]

/-- A cause raised again is a cause raised once. -/
theorem Raised.again {c : Cause} {p q : Part} (h : Raised c p q) : Raised c p (raise c q) := by
  have : q.attention.pending.has c = true := by rw [h.1]; simp
  have hq : raise c q = q := by simp [raise, this]
  rw [hq]
  exact h

end Sys2Proof.Machine
end

