-- ==== Sys2Proof/Laws/Window.lean ====
section
/-! SUPPORT. What leaves the window: the Engine and the Release Queue after each way of leaving, that a pending cause stays
pending, and what emptying a run of entries comes to (R75, R77). -/

namespace Sys2Proof.Machine

/-! ### Pending causes stay -/

theorem CauseSet.has_put_true {s : CauseSet} {c d : Cause} (h : s.has c = true) : (s.put true d).has c = true := by
  cases c <;> cases d <;> simp_all [CauseSet.has, CauseSet.put]

/-- A cause that is pending stays pending when any cause is raised. -/
theorem raise_pending {c d : Cause} {p : Part} (h : p.attention.pending.has c = true) :
    (raise d p).attention.pending.has c = true := by
  rw [(raise_raised d p).1]
  exact CauseSet.has_put_true h

theorem putMarked_pending {c : Cause} {i : Nat} {st : Option Stream} {p : Part}
    (h : p.attention.pending.has c = true) : (putMarked i st p).attention.pending.has c = true :=
  raise_pending (p := p.onStreams _) h

theorem refDec_pending {c : Cause} {i : Nat} {p : Part} (h : p.attention.pending.has c = true) :
    (refDec i p).attention.pending.has c = true := by
  unfold refDec
  split
  · exact h
  · split
    · exact putMarked_pending h
    · exact h

theorem refDecAll_pending {c : Cause} (is : List Nat) {p : Part} (h : p.attention.pending.has c = true) :
    (refDecAll is p).attention.pending.has c = true := by
  unfold refDecAll
  induction is generalizing p with
  | nil => exact h
  | cons i is ih => exact ih (refDec_pending h)

theorem dropOldest_pending {c : Cause} {how : Leaving} {e : Epoch} {p : Part} (h : p.attention.pending.has c = true) :
    (dropOldest how e p).attention.pending.has c = true :=
  raise_pending (refDecAll_pending _ (by simpa using h))

/-- A drop raises EGRESS (R69). -/
theorem dropOldest_egressPending (how : Leaving) (e : Epoch) (p : Part) :
    (dropOldest how e p).attention.pending.has .egress = true := by
  rw [dropOldest, (raise_raised .egress _).1]
  simp

/-! ### The Engine, the Release Queue and the Control Link -/

@[simp] theorem suppressOldest_engine (e : Epoch) (p : Part) : (suppressOldest e p).engine =
    Engine.leave e (fun c => { c with suppressedVoid := bump c.suppressedVoid }) p.engine := rfl

@[simp] theorem releaseOldest_engine (how : Leaving) (e : Epoch) (p : Part) :
    (releaseOldest how e p).engine = Engine.leave e (WindowCounters.release how) p.engine := rfl

@[simp] theorem dropOldest_engine (how : Leaving) (e : Epoch) (p : Part) :
    (dropOldest how e p).engine = Engine.leave e (WindowCounters.drop how) p.engine := by
  simp [dropOldest]

@[simp] theorem releaseOldest_queue (how : Leaving) (e : Epoch) (p : Part) :
    (releaseOldest how e p).egress.releaseQueue = p.egress.releaseQueue ++ [e.record p.fo p.timeBase.state how] := rfl

theorem putMarked_same (i : Nat) (st : Option Stream) (p : Part) : p.control.SameQueue (putMarked i st p).control :=
  raise_same .stream (p.onStreams _)

theorem refDec_same (i : Nat) (p : Part) : p.control.SameQueue (refDec i p).control := by
  unfold refDec
  split
  · exact .refl _
  · split
    · exact putMarked_same _ _ _
    · exact .refl _

theorem refDecAll_same (is : List Nat) (p : Part) : p.control.SameQueue (refDecAll is p).control := by
  unfold refDecAll
  induction is generalizing p with
  | nil => exact .refl _
  | cons i is ih => exact (refDec_same i p).trans (ih _)

theorem dropOldest_same (how : Leaving) (e : Epoch) (p : Part) : p.control.SameQueue (dropOldest how e p).control := by
  unfold dropOldest
  refine Control.SameQueue.trans ?_ (raise_same _ _)
  exact Control.SameQueue.trans (b := (returnBuffers (e.members.map Member.buffer)
    (p.onEngine (Engine.leave e (WindowCounters.drop how)))).control) (by simpa using Control.SameQueue.refl p.control)
    (refDecAll_same _ _)

theorem emptyOldest_same (how : Leaving) (e : Epoch) (x : Part × Tally) :
    x.1.control.SameQueue (emptyOldest how e x).1.control := by
  unfold emptyOldest
  split
  · simpa using Control.SameQueue.refl x.1.control
  · split
    · simpa using Control.SameQueue.refl x.1.control
    · exact dropOldest_same _ _ _

theorem emptyEntries_same (how : Leaving) (es : List Epoch) (x : Part × Tally) :
    x.1.control.SameQueue (emptyEntries how es x).1.control := by
  unfold emptyEntries
  induction es generalizing x with
  | nil => exact .refl _
  | cons e es ih => exact (emptyOldest_same how e x).trans (ih _)

theorem emptyOldest_pending {c : Cause} {how : Leaving} {e : Epoch} {x : Part × Tally}
    (h : x.1.attention.pending.has c = true) : (emptyOldest how e x).1.attention.pending.has c = true := by
  unfold emptyOldest
  split
  · simpa using h
  · split
    · simpa using h
    · exact dropOldest_pending h

theorem emptyEntries_pending {c : Cause} {how : Leaving} (es : List Epoch) {x : Part × Tally}
    (h : x.1.attention.pending.has c = true) : (emptyEntries how es x).1.attention.pending.has c = true := by
  unfold emptyEntries
  induction es generalizing x with
  | nil => exact h
  | cons e es ih => exact ih (emptyOldest_pending h)

/-! ### A delivered expiry (R20, R63) -/

/-- An expiry whose entry is gone, is DUE, or has a deadline not reached as it now stands, is not delivered. -/
theorem doWork_expire_notDue {l : Label} {p : Part} (h : ∀ e, p.epoch l = some e → p.expiryDue e = false) :
    doWork (.expire l) p = (p, []) := by
  cases he : p.epoch l with
  | none => simp [doWork, he]
  | some e => simp [doWork, he, h e he]

/-- An expiry that is due makes its entry DUE, with a miss to report for each item still outstanding. -/
theorem doWork_expire_due {l : Label} {p : Part} {e : Epoch} (he : p.epoch l = some e) (hd : p.expiryDue e = true) :
    doWork (.expire l) p =
      (p.putEpoch { e with state := .due }, e.outstanding.map (fun x => Work.miss x.index x.number)) := by
  simp [doWork, he, hd]

/-- What is due is OPEN, in RUN, with its current deadline reached. -/
theorem expiryDue_iff (p : Part) (e : Epoch) :
    p.expiryDue e = true ↔ p.engine.mode = .run ∧ e.state = .opened ∧ p.deadlineReached e = true := by
  simp [Part.expiryDue, and_assoc]

/-! ### Emptying a run of entries (R75, R77) -/

/-- What does not change in the Engine as entries leave. -/
def Engine.SameWindow (g h : Engine) : Prop :=
  h.mode = g.mode ∧ h.strobe = g.strobe ∧ h.lastLabel = g.lastLabel ∧ h.cfg = g.cfg ∧ h.realign = g.realign

theorem Engine.SameWindow.refl (g : Engine) : g.SameWindow g := ⟨rfl, rfl, rfl, rfl, rfl⟩

theorem Engine.SameWindow.trans {a b c : Engine} (h : a.SameWindow b) (k : b.SameWindow c) : a.SameWindow c :=
  ⟨k.1.trans h.1, k.2.1.trans h.2.1, k.2.2.1.trans h.2.2.1, k.2.2.2.1.trans h.2.2.2.1, k.2.2.2.2.trans h.2.2.2.2⟩

theorem leave_sameWindow (e : Epoch) (f : WindowCounters → WindowCounters) (g : Engine) :
    g.SameWindow (Engine.leave e f g) := ⟨rfl, rfl, rfl, rfl, rfl⟩

theorem emptyOldest_sameWindow (how : Leaving) (e : Epoch) (x : Part × Tally) :
    x.1.engine.SameWindow (emptyOldest how e x).1.engine := by
  unfold emptyOldest
  split
  · exact leave_sameWindow _ _ _
  · split
    · exact leave_sameWindow _ _ _
    · rw [dropOldest_engine]
      exact leave_sameWindow _ _ _

theorem emptyOldest_entries (how : Leaving) (e : Epoch) (x : Part × Tally) :
    (emptyOldest how e x).1.engine.entries = x.1.engine.entries.tail := by
  unfold emptyOldest
  split
  · rfl
  · split
    · rfl
    · rw [dropOldest_engine]
      rfl

theorem emptyOldest_horizon (how : Leaving) (e : Epoch) (x : Part × Tally) :
    (emptyOldest how e x).1.engine.horizon = some e.label ∧ (emptyOldest how e x).1.engine.mark = none ∧
      (emptyOldest how e x).1.engine.sealed = none := by
  unfold emptyOldest
  split
  · exact ⟨rfl, rfl, rfl⟩
  · split
    · exact ⟨rfl, rfl, rfl⟩
    · rw [dropOldest_engine]
      exact ⟨rfl, rfl, rfl⟩

/-- Of the labels dropped ahead of an earlier one, those later than the leaving entry stay kept (log 37). -/
theorem emptyOldest_dropped (how : Leaving) (e : Epoch) (x : Part × Tally) :
    (emptyOldest how e x).1.engine.dropped = x.1.engine.dropped.filter (fun m => m.isLater x.1.fo e.label) := by
  unfold emptyOldest
  split
  · rfl
  · split
    · rfl
    · rw [dropOldest_engine]
      rfl

theorem emptyEntries_sameWindow (how : Leaving) (es : List Epoch) (x : Part × Tally) :
    x.1.engine.SameWindow (emptyEntries how es x).1.engine := by
  unfold emptyEntries
  induction es generalizing x with
  | nil => exact .refl _
  | cons e es ih => exact (emptyOldest_sameWindow how e x).trans (ih _)

/-- The entries emptied are the oldest; the horizon is the last of their labels. -/
theorem emptyEntries_entries (how : Leaving) (es : List Epoch) (x : Part × Tally) :
    (emptyEntries how es x).1.engine.entries = x.1.engine.entries.drop es.length ∧
      (emptyEntries how es x).1.engine.horizon = (es.getLast?.map Epoch.label).or x.1.engine.horizon ∧
      (emptyEntries how es x).1.engine.mark = (if es = [] then x.1.engine.mark else none) ∧
      (emptyEntries how es x).1.engine.sealed = if es = [] then x.1.engine.sealed else none := by
  unfold emptyEntries
  induction es generalizing x with
  | nil => simp
  | cons e es ih =>
    obtain ⟨h1, h2, h3, h4⟩ := ih (emptyOldest how e x)
    refine ⟨?_, ?_, ?_, ?_⟩
    · rw [List.foldl_cons, h1, emptyOldest_entries]
      simp
    · rw [List.foldl_cons, h2, (emptyOldest_horizon how e x).1]
      cases es with
      | nil => rfl
      | cons f r =>
        rw [List.getLast?_cons_cons]
        cases h : (f :: r).getLast? with
        | none => simp at h
        | some l => rfl
    · rw [List.foldl_cons, h3, (emptyOldest_horizon how e x).2.1]
      simp
    · rw [List.foldl_cons, h4, (emptyOldest_horizon how e x).2.2]
      simp

/-- Emptying a run of entries keeps, of the labels dropped ahead of an earlier one, those later than all of them. -/
theorem emptyEntries_dropped (how : Leaving) (es : List Epoch) (x : Part × Tally) :
    (emptyEntries how es x).1.engine.dropped =
      x.1.engine.dropped.filter (fun m => es.all (fun e => m.isLater x.1.fo e.label)) := by
  unfold emptyEntries
  induction es generalizing x with
  | nil => simp
  | cons e es ih =>
    have hf : (emptyOldest how e x).1.fo = x.1.fo := by
      show (emptyOldest how e x).1.engine.cfg.fo = x.1.engine.cfg.fo
      rw [(emptyOldest_sameWindow how e x).2.2.2.1]
    rw [List.foldl_cons, ih, emptyOldest_dropped, List.filter_filter, hf]
    simp [Bool.and_comm]

/-- How many of a run of entries void suppression takes, and how many of the rest a queue of `held` records has places
for. -/
def voids (policy : VoidPolicy) (es : List Epoch) : Nat :=
  es.countP (fun x => decide (x.members = [] ∧ policy = .suppress))

def places (policy : VoidPolicy) (es : List Epoch) (held : Nat) : Nat :=
  min (es.length - voids policy es) (32 - held)

theorem suppresses_iff (p : Part) (e : Epoch) :
    p.suppresses e = decide (e.members = [] ∧ p.engine.cfg.voidPolicy = .suppress) := by
  simp [Part.suppresses]

theorem voids_le (policy : VoidPolicy) (es : List Epoch) : voids policy es ≤ es.length := List.countP_le_length

/-- The totals of emptying a run of entries: suppressed, released while places last, dropped. -/
theorem emptyEntries_tally (how : Leaving) (es : List Epoch) (x : Part × Tally) :
    let v := voids x.1.engine.cfg.voidPolicy es
    let n := places x.1.engine.cfg.voidPolicy es x.1.egress.releaseQueue.length
    (emptyEntries how es x).2 =
      ⟨x.2.released + n, x.2.dropped + (es.length - v - n), x.2.suppressed + v⟩ := by
  unfold emptyEntries
  induction es generalizing x with
  | nil => simp [voids, places]
  | cons e es ih =>
    have h := ih (emptyOldest how e x)
    have hc := (emptyOldest_sameWindow how e x).2.2.2.1
    have hv := voids_le x.1.engine.cfg.voidPolicy es
    rw [List.foldl_cons, h, hc]
    unfold emptyOldest
    rw [suppresses_iff]
    split
    · rename_i hs
      have e1 : voids x.1.engine.cfg.voidPolicy (e :: es) = voids x.1.engine.cfg.voidPolicy es + 1 := by
        simp only [voids, List.countP_cons, hs, if_true]
      simp only [places, e1, suppressOldest_egress, List.length_cons, Tally.mk.injEq]
      omega
    · rename_i hs
      have e1 : voids x.1.engine.cfg.voidPolicy (e :: es) = voids x.1.engine.cfg.voidPolicy es := by
        simpa [voids, List.countP_cons] using hs
      split
      · rename_i hp
        simp only [Part.hasPlace, decide_eq_true_eq] at hp
        simp only [places, e1, releaseOldest_queue, List.length_append, List.length_cons, List.length_nil,
          Tally.mk.injEq]
        refine ⟨?_, ?_, ?_⟩ <;> first | omega | trivial
      · rename_i hp
        simp only [Part.hasPlace, decide_eq_true_eq] at hp
        simp only [places, e1, dropOldest_egress, List.length_cons, Tally.mk.injEq]
        refine ⟨?_, ?_, ?_⟩ <;> first | omega | trivial

end Sys2Proof.Machine
end

