-- ==== Sys2Proof/Laws/LabelOrder.lean ====
section
/-! SUPPORT. The labels that have left the Epoch Table (R65, R144), the newest and those dropped ahead of an earlier one: what
moves them, what leaves them alone, which labels are closed, and that the order of instants is one. -/

namespace Sys2Proof.Machine

/-! ### Instants -/

theorem isBefore_iff (m : Instant) (fo : Nat) (l : Label) : m.isBefore fo l = true ↔ m.earlierThan l fo := by
  simp [Instant.isBefore, Instant.earlierThan, earlier]

theorem isAfter_iff (fo : Nat) (m : Option Instant) (l : Label) :
    isAfter fo m l = true ↔ ∀ x, m = some x → x.earlierThan l fo := by
  cases m <;> simp [isAfter, isBefore_iff]

/-- A label that is not sealed is later than the instant that seals. -/
theorem isSealed_iff (p : Part) (l : Label) :
    p.isSealed l = false ↔ ∀ m, p.engine.sealed = some m → m.earlierThan l p.fo := by
  simp [Part.isSealed, isAfter_iff]

theorem isAt_iff (m : Instant) (fo : Nat) (l : Label) : m.isAt fo l = true ↔ m.at_ l fo := by
  simp [Instant.isAt, Instant.at_]

/-- Of two instants one is the earlier, or they are the same. -/
theorem isLater_iff (m : Instant) (fo : Nat) (l : Label) :
    m.isLater fo l = true ↔ earlier l fo ⟨m.second, m.tick⟩ m.rate := by
  simp only [Instant.isLater, Instant.isBefore, Instant.isAt, earlier, Bool.and_eq_true, Bool.not_eq_true',
    Bool.or_eq_false_iff, Bool.and_eq_false_iff, decide_eq_false_iff_not, beq_eq_false_iff_ne]
  omega

/-- A label was dropped when its instant is among those kept. -/
theorem wasDropped_iff (p : Part) (l : Label) :
    p.wasDropped l = true ↔ ∃ m ∈ p.engine.dropped, m.at_ l p.fo := by
  simp [Part.wasDropped, isAt_iff]

/-- A label that has left is not later than the horizon, or was dropped (R69, log 37). -/
theorem left_iff (p : Part) (l : Label) :
    p.left l = true ↔ ∃ h, p.engine.horizon = some h ∧ (l.le h = true ∨ ∃ m ∈ p.engine.dropped, m.at_ l p.fo) := by
  unfold Part.left
  cases p.engine.horizon <;> simp [wasDropped_iff]

/-- A label that a strobe does not open is not later than the horizon or the seal, or was dropped (R57, R144). -/
theorem isClosed_iff (p : Part) (l : Label) :
    p.isClosed l = true ↔ (∃ h, p.engine.horizon = some h ∧ l.le h = true) ∨
      (∃ m ∈ p.engine.dropped, m.at_ l p.fo) ∨ ∃ m, p.engine.sealed = some m ∧ ¬ m.earlierThan l p.fo := by
  have hs : p.isSealed l = true ↔ ∃ m, p.engine.sealed = some m ∧ ¬ m.earlierThan l p.fo := by
    rw [← Bool.not_eq_false, isSealed_iff]
    simp
  simp only [Part.isClosed, Bool.or_eq_true, left_iff, wasDropped_iff, hs]
  constructor
  · rintro ((⟨h, e, x | x⟩ | x) | x)
    · exact .inl ⟨h, e, x⟩
    · exact .inr (.inl x)
    · exact .inr (.inr x)
    · exact .inr (.inl x)
  · rintro (⟨h, e, x⟩ | x | x)
    · exact .inl (.inl ⟨h, e, .inl x⟩)
    · exact .inr x
    · exact .inl (.inr x)

/-- A label that a frame may open is at or after the strobe label, later than the mark and the seal, and was not dropped
(R58, R65, R144). -/
theorem atStrobe_iff (p : Part) (l : Label) :
    p.atStrobe l = true ↔ ∃ s, p.engine.strobe = some s ∧ s.le l = true ∧
      (∀ m, p.engine.mark = some m → m.earlierThan l p.fo) ∧
      (∀ m, p.engine.sealed = some m → m.earlierThan l p.fo) ∧ ∀ m ∈ p.engine.dropped, ¬ m.at_ l p.fo := by
  unfold Part.atStrobe
  have hd : p.wasDropped l = false ↔ ∀ m ∈ p.engine.dropped, ¬ m.at_ l p.fo := by
    rw [← Bool.not_eq_true, wasDropped_iff]
    simp
  cases p.engine.strobe with
  | none => simp
  | some s => simp [isAfter_iff, isSealed_iff, hd, and_assoc]

theorem earlier_irrefl (a : Label) (f : Nat) : ¬ earlier a f a f := by
  simp [earlier]

theorem earlier_of_lt {a b : Label} {f : Nat} (hf : 0 < f) : earlier a f b f ↔ a.lt b = true := by
  simp [earlier, Label.lt, Nat.mul_lt_mul_right hf]

theorem earlier_trans {a b c : Label} {f g h : Nat} (hf : 0 < f) (hh : 0 < h)
    (x : earlier a f b g) (y : earlier b g c h) : earlier a f c h := by
  unfold earlier at *
  rcases x with x | ⟨x1, x2⟩ <;> rcases y with y | ⟨y1, y2⟩
  · left; omega
  · left; omega
  · left; omega
  · refine Or.inr ⟨x1.trans y1, ?_⟩
    have e1 := Nat.mul_lt_mul_of_pos_right x2 hh
    have e2 := Nat.mul_lt_mul_of_pos_right y2 hf
    have e3 : a.tick * h * g < c.tick * f * g := by
      calc a.tick * h * g = a.tick * g * h := by ring
        _ < b.tick * f * h := e1
        _ = b.tick * h * f := by ring
        _ < c.tick * g * f := e2
        _ = c.tick * f * g := by ring
    exact Nat.lt_of_mul_lt_mul_right e3

/-! ### The newest label that has left -/

@[simp] theorem newestLeft_moveHorizon (l : Label) (g : Engine) :
    (g.moveHorizon l).newestLeft = some ⟨l.second, l.tick, g.cfg.fo⟩ := rfl

@[simp] theorem newestLeft_leave (e : Epoch) (f : WindowCounters → WindowCounters) (g : Engine) :
    (g.leave e f).newestLeft = some ⟨e.label.second, e.label.tick, g.cfg.fo⟩ := rfl

@[simp] theorem newestLeft_advance (l : Label) (g : Engine) : (g.advance l).newestLeft = g.newestLeft := by
  unfold Engine.advance
  split <;> rfl

@[simp] theorem newestLeft_setStrobe (pt : Option PartTime) (g : Engine) :
    (g.setStrobe pt).newestLeft = g.newestLeft := by
  cases pt <;> rfl

/-- On the removal of ISOLATE the strobe label is set as at any other time; only the mark of a strobed last label may be kept
(R79, log 15). -/
theorem restrobe_eq (t : PartTime) (g : Engine) :
    g.restrobe t = { g.setStrobe (some t) with lastLabel := (g.restrobe t).lastLabel } := by
  unfold Engine.restrobe
  dsimp only
  split <;> rfl

@[simp] theorem restrobe_strobe (t : PartTime) (g : Engine) : (g.restrobe t).strobe = some (g.labelAfter t) := by
  rw [restrobe_eq]
  rfl

/-- A last label that is not withheld is the strobe label still to be strobed, or the strobe label it was (R19, R79). -/
theorem restrobe_notWithheld {t : PartTime} {g : Engine} (h : (g.restrobe t).lastLabel ≠ .withheld) :
    (g.lastAhead t = true ∧ (g.restrobe t).lastLabel = .ahead) ∨
      (g.lastLabel = .taken ∧ (g.restrobe t).lastLabel = .taken ∧ (g.restrobe t).strobe = g.strobe) := by
  unfold Engine.restrobe at h ⊢
  dsimp only at h ⊢
  split at h
  · rename_i hc
    rw [if_pos hc]
    exact .inr ⟨hc.1, rfl, hc.2.2⟩
  · rename_i hc
    rw [if_neg hc]
    cases ha : g.lastAhead t
    · simp [Engine.setStrobe, ha] at h
    · exact .inl ⟨rfl, by simp [Engine.setStrobe, ha]⟩

@[simp] theorem newestLeft_restrobe (t : PartTime) (g : Engine) : (g.restrobe t).newestLeft = g.newestLeft := by
  rw [restrobe_eq]
  exact newestLeft_setStrobe (some t) g

/-- A realignment in which an entry left keeps the label that left last, as its mark (R76). -/
theorem newestLeft_realigned {r : Realign} (pt : Option PartTime) (isolate : Bool) {g : Engine} {l : Label}
    (hn : r.newest = some l) (h : g.horizon = some l) : (g.realigned r pt isolate).newestLeft = g.newestLeft := by
  unfold Engine.realigned Engine.newestLeft
  cases pt <;> simp [Engine.setStrobe, hn, h]

/-- A realignment in which none left keeps it as its seal, with neither mark nor horizon (R76, R144, log 41). -/
theorem newestLeft_realigned_none {r : Realign} (pt : Option PartTime) (isolate : Bool) (g : Engine)
    (hn : r.newest = none) : (g.realigned r pt isolate).newestLeft = g.newestLeft ∧
      (g.realigned r pt isolate).mark = none ∧ (g.realigned r pt isolate).horizon = none := by
  unfold Engine.realigned
  cases pt <;> simp [Engine.setStrobe, Engine.newestLeft, hn]

/-! ### The labels dropped ahead of an earlier one (R59, R144, log 37) -/

@[simp] theorem dropped_moveHorizon (l : Label) (g : Engine) :
    (g.moveHorizon l).dropped = g.dropped.filter (fun m => m.isLater g.cfg.fo l) := rfl

@[simp] theorem dropped_leave (e : Epoch) (f : WindowCounters → WindowCounters) (g : Engine) :
    (g.leave e f).dropped = g.dropped.filter (fun m => m.isLater g.cfg.fo e.label) := rfl

@[simp] theorem dropped_advance (l : Label) (g : Engine) : (g.advance l).dropped = g.dropped := by
  unfold Engine.advance
  split <;> rfl

@[simp] theorem dropped_setStrobe (pt : Option PartTime) (g : Engine) : (g.setStrobe pt).dropped = g.dropped := by
  cases pt <;> rfl

@[simp] theorem dropped_restrobe (t : PartTime) (g : Engine) : (g.restrobe t).dropped = g.dropped := by
  rw [restrobe_eq]
  exact dropped_setStrobe (some t) g

@[simp] theorem dropped_realigned (r : Realign) (pt : Option PartTime) (isolate : Bool) (g : Engine) :
    (g.realigned r pt isolate).dropped = g.dropped := by
  cases pt <;> rfl

/-- Making room with fewer than 256 entries does nothing. -/
theorem makeRoom_free {p : Part} (l : Label) (h : p.engine.entries.length < 256) : makeRoom l p = p := by
  simp [makeRoom, h]

/-- Making room with 256 entries drops the oldest; a label dropped ahead of an earlier one is kept. -/
theorem makeRoom_full {p : Part} {e : Epoch} {r : List Epoch} (l : Label) (h : 256 ≤ p.engine.entries.length)
    (he : p.engine.entries = e :: r) :
    (makeRoom l p).engine.entries = r ∧ (makeRoom l p).engine.horizon = some e.label ∧
      (makeRoom l p).engine.newestLeft = some ⟨e.label.second, e.label.tick, p.fo⟩ ∧
      (makeRoom l p).engine.cfg = p.engine.cfg ∧
      (makeRoom l p).engine.dropped =
        if l.lt e.label then ⟨e.label.second, e.label.tick, p.fo⟩ :: p.engine.dropped
        else p.engine.dropped.filter (fun m => m.isLater p.fo e.label) := by
  have hm : makeRoom l p = (dropOldest .turn e p).onEngine (Engine.keepDropped l e.label p.engine.dropped) := by
    unfold makeRoom
    rw [if_neg (by omega), he]
  have hg : (dropOldest .turn e p).engine = Engine.leave e (WindowCounters.drop .turn) p.engine := dropOldest_engine _ _ _
  rw [hm]
  simp only [Part.onEngine, hg]
  cases hl : l.lt e.label <;>
    simp [Engine.keepDropped, hl, Engine.leave, Engine.count, Engine.moveHorizon, Engine.newestLeft, he, Part.fo]

/-- A realignment makes the horizon absent. -/
theorem horizon_realigned (r : Realign) (pt : Option PartTime) (isolate : Bool) (g : Engine) :
    (g.realigned r pt isolate).horizon = none := by
  cases pt <;> rfl

/-- The strobe label set from part time is later than the mark, or is the last label, withheld (R76). -/
theorem setStrobe_later {t : PartTime} {g : Engine} {l : Label} {m : Instant} (hs : (g.setStrobe (some t)).strobe = some l)
    (hm : g.mark = some m) (h : m.isBefore g.cfg.fo (m.firstLabel g.cfg.fo) = true) : m.earlierThan l g.cfg.fo := by
  rw [← isBefore_iff]
  have e : g.labelAfter t = l := by simpa [Engine.setStrobe] using hs
  rw [← e]
  unfold Engine.labelAfter
  rw [hm]
  dsimp only
  split
  · assumption
  · exact h

/-- Where 256 entries are held, only an oldest entry that is DUE makes room (R59). -/
theorem canOpen_full {p : Part} {e : Epoch} (hl : 256 ≤ p.engine.entries.length)
    (he : p.engine.entries.head? = some e) : p.canOpen = decide (e.state = .due) := by
  unfold Part.canOpen
  cases h : p.engine.entries with
  | nil => simp [h] at he
  | cons x r =>
    simp only [h, List.head?_cons, Option.some.injEq] at he hl
    subst he
    simp only [show decide ((x :: r).length < 256) = false from by simp at hl ⊢; omega, Bool.false_or]

end Sys2Proof.Machine
end

