-- ==== Sys2Proof/Laws/LinkFrames.lean ====
section
/-! SUPPORT. What the realignment, the Set Link and the Control Link leave unchanged. -/

namespace Sys2Proof.Machine

@[simp] theorem realignTake_clock (e : Epoch) (r : Realign) (p : Part) : (realignTake e r p).clock = p.clock := by simp [realignTake]
@[simp] theorem realignTake_idleSpan (e : Epoch) (r : Realign) (p : Part) : (realignTake e r p).idleSpan = p.idleSpan := by simp [realignTake]
@[simp] theorem realignTake_freeUses (e : Epoch) (r : Realign) (p : Part) : (realignTake e r p).freeUses = p.freeUses := by simp [realignTake]
@[simp] theorem realignTake_pins (e : Epoch) (r : Realign) (p : Part) : (realignTake e r p).pins = p.pins := by simp [realignTake]
@[simp] theorem realignTake_straps (e : Epoch) (r : Realign) (p : Part) : (realignTake e r p).straps = p.straps := by simp [realignTake]
@[simp] theorem realignTake_lastReset (e : Epoch) (r : Realign) (p : Part) : (realignTake e r p).lastReset = p.lastReset := by simp [realignTake]
@[simp] theorem realignTake_filing (e : Epoch) (r : Realign) (p : Part) : (realignTake e r p).filing = p.filing := by simp [realignTake]
@[simp] theorem realignTake_portA (e : Epoch) (r : Realign) (p : Part) : (realignTake e r p).portA = p.portA := by simp [realignTake]
@[simp] theorem realignTake_portB (e : Epoch) (r : Realign) (p : Part) : (realignTake e r p).portB = p.portB := by simp [realignTake]
@[simp] theorem realignTake_timeBase (e : Epoch) (r : Realign) (p : Part) : (realignTake e r p).timeBase = p.timeBase := by simp [realignTake]
@[simp] theorem realignTake_sorter (e : Epoch) (r : Realign) (p : Part) : (realignTake e r p).sorter = p.sorter := by simp [realignTake]
@[simp] theorem realignTake_lanes (e : Epoch) (r : Realign) (p : Part) : (realignTake e r p).lanes = p.lanes := by simp [realignTake]

@[simp] theorem realignRun_clock (n : Nat) (p : Part) : (realignRun n p).clock = p.clock := by
  induction n generalizing p with
  | zero => rfl
  | succ n ih =>
    unfold realignRun
    (repeat' split) <;> simp [ih]
@[simp] theorem realignRun_idleSpan (n : Nat) (p : Part) : (realignRun n p).idleSpan = p.idleSpan := by
  induction n generalizing p with
  | zero => rfl
  | succ n ih =>
    unfold realignRun
    (repeat' split) <;> simp [ih]
@[simp] theorem realignRun_freeUses (n : Nat) (p : Part) : (realignRun n p).freeUses = p.freeUses := by
  induction n generalizing p with
  | zero => rfl
  | succ n ih =>
    unfold realignRun
    (repeat' split) <;> simp [ih]
@[simp] theorem realignRun_pins (n : Nat) (p : Part) : (realignRun n p).pins = p.pins := by
  induction n generalizing p with
  | zero => rfl
  | succ n ih =>
    unfold realignRun
    (repeat' split) <;> simp [ih]
@[simp] theorem realignRun_straps (n : Nat) (p : Part) : (realignRun n p).straps = p.straps := by
  induction n generalizing p with
  | zero => rfl
  | succ n ih =>
    unfold realignRun
    (repeat' split) <;> simp [ih]
@[simp] theorem realignRun_lastReset (n : Nat) (p : Part) : (realignRun n p).lastReset = p.lastReset := by
  induction n generalizing p with
  | zero => rfl
  | succ n ih =>
    unfold realignRun
    (repeat' split) <;> simp [ih]
@[simp] theorem realignRun_filing (n : Nat) (p : Part) : (realignRun n p).filing = p.filing := by
  induction n generalizing p with
  | zero => rfl
  | succ n ih =>
    unfold realignRun
    (repeat' split) <;> simp [ih]
@[simp] theorem realignRun_portA (n : Nat) (p : Part) : (realignRun n p).portA = p.portA := by
  induction n generalizing p with
  | zero => rfl
  | succ n ih =>
    unfold realignRun
    (repeat' split) <;> simp [ih]
@[simp] theorem realignRun_portB (n : Nat) (p : Part) : (realignRun n p).portB = p.portB := by
  induction n generalizing p with
  | zero => rfl
  | succ n ih =>
    unfold realignRun
    (repeat' split) <;> simp [ih]
@[simp] theorem realignRun_timeBase (n : Nat) (p : Part) : (realignRun n p).timeBase = p.timeBase := by
  induction n generalizing p with
  | zero => rfl
  | succ n ih =>
    unfold realignRun
    (repeat' split) <;> simp [ih]
@[simp] theorem realignRun_sorter (n : Nat) (p : Part) : (realignRun n p).sorter = p.sorter := by
  induction n generalizing p with
  | zero => rfl
  | succ n ih =>
    unfold realignRun
    (repeat' split) <;> simp [ih]
@[simp] theorem realignRun_lanes (n : Nat) (p : Part) : (realignRun n p).lanes = p.lanes := by
  induction n generalizing p with
  | zero => rfl
  | succ n ih =>
    unfold realignRun
    (repeat' split) <;> simp [ih]

@[simp] theorem realignOn_clock (p : Part) : (realignOn p).clock = p.clock := by
  unfold realignOn
  (repeat' split) <;> simp
@[simp] theorem realignOn_idleSpan (p : Part) : (realignOn p).idleSpan = p.idleSpan := by
  unfold realignOn
  (repeat' split) <;> simp
@[simp] theorem realignOn_pins (p : Part) : (realignOn p).pins = p.pins := by
  unfold realignOn
  (repeat' split) <;> simp
@[simp] theorem realignOn_straps (p : Part) : (realignOn p).straps = p.straps := by
  unfold realignOn
  (repeat' split) <;> simp
@[simp] theorem realignOn_lastReset (p : Part) : (realignOn p).lastReset = p.lastReset := by
  unfold realignOn
  (repeat' split) <;> simp
@[simp] theorem realignOn_filing (p : Part) : (realignOn p).filing = p.filing := by
  unfold realignOn
  (repeat' split) <;> simp
@[simp] theorem realignOn_portA (p : Part) : (realignOn p).portA = p.portA := by
  unfold realignOn
  (repeat' split) <;> simp
@[simp] theorem realignOn_portB (p : Part) : (realignOn p).portB = p.portB := by
  unfold realignOn
  (repeat' split) <;> simp
@[simp] theorem realignOn_timeBase (p : Part) : (realignOn p).timeBase = p.timeBase := by
  unfold realignOn
  (repeat' split) <;> simp
@[simp] theorem realignOn_sorter (p : Part) : (realignOn p).sorter = p.sorter := by
  unfold realignOn
  (repeat' split) <;> simp
@[simp] theorem realignOn_lanes (p : Part) : (realignOn p).lanes = p.lanes := by
  unfold realignOn
  (repeat' split) <;> simp

@[simp] theorem beginRealign_clock (c : AlignConfig) (p : Part) : (beginRealign c p).clock = p.clock := by simp [beginRealign]
@[simp] theorem beginRealign_idleSpan (c : AlignConfig) (p : Part) : (beginRealign c p).idleSpan = p.idleSpan := by simp [beginRealign]
@[simp] theorem beginRealign_pins (c : AlignConfig) (p : Part) : (beginRealign c p).pins = p.pins := by simp [beginRealign]
@[simp] theorem beginRealign_straps (c : AlignConfig) (p : Part) : (beginRealign c p).straps = p.straps := by simp [beginRealign]
@[simp] theorem beginRealign_lastReset (c : AlignConfig) (p : Part) : (beginRealign c p).lastReset = p.lastReset := by simp [beginRealign]
@[simp] theorem beginRealign_filing (c : AlignConfig) (p : Part) : (beginRealign c p).filing = p.filing := by simp [beginRealign]
@[simp] theorem beginRealign_portA (c : AlignConfig) (p : Part) : (beginRealign c p).portA = p.portA := by simp [beginRealign]
@[simp] theorem beginRealign_portB (c : AlignConfig) (p : Part) : (beginRealign c p).portB = p.portB := by simp [beginRealign]
@[simp] theorem beginRealign_timeBase (c : AlignConfig) (p : Part) : (beginRealign c p).timeBase = p.timeBase := by simp [beginRealign]
@[simp] theorem beginRealign_sorter (c : AlignConfig) (p : Part) : (beginRealign c p).sorter = p.sorter := by simp [beginRealign]
@[simp] theorem beginRealign_lanes (c : AlignConfig) (p : Part) : (beginRealign c p).lanes = p.lanes := by simp [beginRealign]

@[simp] theorem finishRealign_clock (r : Realign) (p : Part) : (finishRealign r p).clock = p.clock := by
  unfold finishRealign
  dsimp only
  (repeat' split) <;> simp
@[simp] theorem finishRealign_idleSpan (r : Realign) (p : Part) : (finishRealign r p).idleSpan = p.idleSpan := by
  unfold finishRealign
  dsimp only
  (repeat' split) <;> simp
@[simp] theorem finishRealign_freeUses (r : Realign) (p : Part) : (finishRealign r p).freeUses = p.freeUses := by
  unfold finishRealign
  dsimp only
  (repeat' split) <;> simp
@[simp] theorem finishRealign_pins (r : Realign) (p : Part) : (finishRealign r p).pins = p.pins := by
  unfold finishRealign
  dsimp only
  (repeat' split) <;> simp
@[simp] theorem finishRealign_straps (r : Realign) (p : Part) : (finishRealign r p).straps = p.straps := by
  unfold finishRealign
  dsimp only
  (repeat' split) <;> simp
@[simp] theorem finishRealign_lastReset (r : Realign) (p : Part) : (finishRealign r p).lastReset = p.lastReset := by
  unfold finishRealign
  dsimp only
  (repeat' split) <;> simp
@[simp] theorem finishRealign_filing (r : Realign) (p : Part) : (finishRealign r p).filing = p.filing := by
  unfold finishRealign
  dsimp only
  (repeat' split) <;> simp
@[simp] theorem finishRealign_portA (r : Realign) (p : Part) : (finishRealign r p).portA = p.portA := by
  unfold finishRealign
  dsimp only
  (repeat' split) <;> simp
@[simp] theorem finishRealign_portB (r : Realign) (p : Part) : (finishRealign r p).portB = p.portB := by
  unfold finishRealign
  dsimp only
  (repeat' split) <;> simp
@[simp] theorem finishRealign_timeBase (r : Realign) (p : Part) : (finishRealign r p).timeBase = p.timeBase := by
  unfold finishRealign
  dsimp only
  (repeat' split) <;> simp
@[simp] theorem finishRealign_streams (r : Realign) (p : Part) : (finishRealign r p).streams = p.streams := by
  unfold finishRealign
  dsimp only
  (repeat' split) <;> simp
@[simp] theorem finishRealign_sorter (r : Realign) (p : Part) : (finishRealign r p).sorter = p.sorter := by
  unfold finishRealign
  dsimp only
  (repeat' split) <;> simp
@[simp] theorem finishRealign_lanes (r : Realign) (p : Part) : (finishRealign r p).lanes = p.lanes := by
  unfold finishRealign
  dsimp only
  (repeat' split) <;> simp
@[simp] theorem finishRealign_attention (r : Realign) (p : Part) : (finishRealign r p).attention = p.attention := by
  unfold finishRealign
  dsimp only
  (repeat' split) <;> simp

@[simp] theorem realignmentComplete_clock (p : Part) : (realignmentComplete p).clock = p.clock := by
  unfold realignmentComplete
  dsimp only
  (repeat' split) <;> simp
@[simp] theorem realignmentComplete_idleSpan (p : Part) : (realignmentComplete p).idleSpan = p.idleSpan := by
  unfold realignmentComplete
  dsimp only
  (repeat' split) <;> simp
@[simp] theorem realignmentComplete_freeUses (p : Part) : (realignmentComplete p).freeUses = p.freeUses := by
  unfold realignmentComplete
  dsimp only
  (repeat' split) <;> simp
@[simp] theorem realignmentComplete_pins (p : Part) : (realignmentComplete p).pins = p.pins := by
  unfold realignmentComplete
  dsimp only
  (repeat' split) <;> simp
@[simp] theorem realignmentComplete_straps (p : Part) : (realignmentComplete p).straps = p.straps := by
  unfold realignmentComplete
  dsimp only
  (repeat' split) <;> simp
@[simp] theorem realignmentComplete_lastReset (p : Part) : (realignmentComplete p).lastReset = p.lastReset := by
  unfold realignmentComplete
  dsimp only
  (repeat' split) <;> simp
@[simp] theorem realignmentComplete_filing (p : Part) : (realignmentComplete p).filing = p.filing := by
  unfold realignmentComplete
  dsimp only
  (repeat' split) <;> simp
@[simp] theorem realignmentComplete_portA (p : Part) : (realignmentComplete p).portA = p.portA := by
  unfold realignmentComplete
  dsimp only
  (repeat' split) <;> simp
@[simp] theorem realignmentComplete_portB (p : Part) : (realignmentComplete p).portB = p.portB := by
  unfold realignmentComplete
  dsimp only
  (repeat' split) <;> simp
@[simp] theorem realignmentComplete_timeBase (p : Part) : (realignmentComplete p).timeBase = p.timeBase := by
  unfold realignmentComplete
  dsimp only
  (repeat' split) <;> simp
@[simp] theorem realignmentComplete_sorter (p : Part) : (realignmentComplete p).sorter = p.sorter := by
  unfold realignmentComplete
  dsimp only
  (repeat' split) <;> simp
@[simp] theorem realignmentComplete_lanes (p : Part) : (realignmentComplete p).lanes = p.lanes := by
  unfold realignmentComplete
  dsimp only
  (repeat' split) <;> simp

@[simp] theorem takePause_clock (p : Part) : (takePause p).clock = p.clock := by
  unfold takePause
  (repeat' split) <;> simp
@[simp] theorem takePause_idleSpan (p : Part) : (takePause p).idleSpan = p.idleSpan := by
  unfold takePause
  (repeat' split) <;> simp
@[simp] theorem takePause_freeUses (p : Part) : (takePause p).freeUses = p.freeUses := by
  unfold takePause
  (repeat' split) <;> simp
@[simp] theorem takePause_pins (p : Part) : (takePause p).pins = p.pins := by
  unfold takePause
  (repeat' split) <;> simp
@[simp] theorem takePause_straps (p : Part) : (takePause p).straps = p.straps := by
  unfold takePause
  (repeat' split) <;> simp
@[simp] theorem takePause_lastReset (p : Part) : (takePause p).lastReset = p.lastReset := by
  unfold takePause
  (repeat' split) <;> simp
@[simp] theorem takePause_filing (p : Part) : (takePause p).filing = p.filing := by
  unfold takePause
  (repeat' split) <;> simp
@[simp] theorem takePause_portA (p : Part) : (takePause p).portA = p.portA := by
  unfold takePause
  (repeat' split) <;> simp
@[simp] theorem takePause_portB (p : Part) : (takePause p).portB = p.portB := by
  unfold takePause
  (repeat' split) <;> simp
@[simp] theorem takePause_timeBase (p : Part) : (takePause p).timeBase = p.timeBase := by
  unfold takePause
  (repeat' split) <;> simp
@[simp] theorem takePause_streams (p : Part) : (takePause p).streams = p.streams := by
  unfold takePause
  (repeat' split) <;> simp
@[simp] theorem takePause_engine (p : Part) : (takePause p).engine = p.engine := by
  unfold takePause
  (repeat' split) <;> simp
@[simp] theorem takePause_sorter (p : Part) : (takePause p).sorter = p.sorter := by
  unfold takePause
  (repeat' split) <;> simp
@[simp] theorem takePause_lanes (p : Part) : (takePause p).lanes = p.lanes := by
  unfold takePause
  (repeat' split) <;> simp
@[simp] theorem takePause_store (p : Part) : (takePause p).store = p.store := by
  unfold takePause
  (repeat' split) <;> simp
@[simp] theorem takePause_control (p : Part) : (takePause p).control = p.control := by
  unfold takePause
  (repeat' split) <;> simp
@[simp] theorem takePause_attention (p : Part) : (takePause p).attention = p.attention := by
  unfold takePause
  (repeat' split) <;> simp

@[simp] theorem takeResume_clock (p : Part) : (takeResume p).clock = p.clock := by
  unfold takeResume
  (repeat' split) <;> simp
@[simp] theorem takeResume_idleSpan (p : Part) : (takeResume p).idleSpan = p.idleSpan := by
  unfold takeResume
  (repeat' split) <;> simp
@[simp] theorem takeResume_freeUses (p : Part) : (takeResume p).freeUses = p.freeUses := by
  unfold takeResume
  (repeat' split) <;> simp
@[simp] theorem takeResume_pins (p : Part) : (takeResume p).pins = p.pins := by
  unfold takeResume
  (repeat' split) <;> simp
@[simp] theorem takeResume_straps (p : Part) : (takeResume p).straps = p.straps := by
  unfold takeResume
  (repeat' split) <;> simp
@[simp] theorem takeResume_lastReset (p : Part) : (takeResume p).lastReset = p.lastReset := by
  unfold takeResume
  (repeat' split) <;> simp
@[simp] theorem takeResume_filing (p : Part) : (takeResume p).filing = p.filing := by
  unfold takeResume
  (repeat' split) <;> simp
@[simp] theorem takeResume_portA (p : Part) : (takeResume p).portA = p.portA := by
  unfold takeResume
  (repeat' split) <;> simp
@[simp] theorem takeResume_portB (p : Part) : (takeResume p).portB = p.portB := by
  unfold takeResume
  (repeat' split) <;> simp
@[simp] theorem takeResume_timeBase (p : Part) : (takeResume p).timeBase = p.timeBase := by
  unfold takeResume
  (repeat' split) <;> simp
@[simp] theorem takeResume_streams (p : Part) : (takeResume p).streams = p.streams := by
  unfold takeResume
  (repeat' split) <;> simp
@[simp] theorem takeResume_engine (p : Part) : (takeResume p).engine = p.engine := by
  unfold takeResume
  (repeat' split) <;> simp
@[simp] theorem takeResume_sorter (p : Part) : (takeResume p).sorter = p.sorter := by
  unfold takeResume
  (repeat' split) <;> simp
@[simp] theorem takeResume_lanes (p : Part) : (takeResume p).lanes = p.lanes := by
  unfold takeResume
  (repeat' split) <;> simp
@[simp] theorem takeResume_control (p : Part) : (takeResume p).control = p.control := by
  unfold takeResume
  (repeat' split) <;> simp
@[simp] theorem takeResume_attention (p : Part) : (takeResume p).attention = p.attention := by
  unfold takeResume
  (repeat' split) <;> simp

@[simp] theorem returnEvent_clock (p : Part) (ev : RxEvent) : (returnEvent p ev).clock = p.clock := by
  unfold returnEvent
  (repeat' split) <;> simp
@[simp] theorem returnEvent_idleSpan (p : Part) (ev : RxEvent) : (returnEvent p ev).idleSpan = p.idleSpan := by
  unfold returnEvent
  (repeat' split) <;> simp
@[simp] theorem returnEvent_freeUses (p : Part) (ev : RxEvent) : (returnEvent p ev).freeUses = p.freeUses := by
  unfold returnEvent
  (repeat' split) <;> simp
@[simp] theorem returnEvent_pins (p : Part) (ev : RxEvent) : (returnEvent p ev).pins = p.pins := by
  unfold returnEvent
  (repeat' split) <;> simp
@[simp] theorem returnEvent_straps (p : Part) (ev : RxEvent) : (returnEvent p ev).straps = p.straps := by
  unfold returnEvent
  (repeat' split) <;> simp
@[simp] theorem returnEvent_lastReset (p : Part) (ev : RxEvent) : (returnEvent p ev).lastReset = p.lastReset := by
  unfold returnEvent
  (repeat' split) <;> simp
@[simp] theorem returnEvent_filing (p : Part) (ev : RxEvent) : (returnEvent p ev).filing = p.filing := by
  unfold returnEvent
  (repeat' split) <;> simp
@[simp] theorem returnEvent_portA (p : Part) (ev : RxEvent) : (returnEvent p ev).portA = p.portA := by
  unfold returnEvent
  (repeat' split) <;> simp
@[simp] theorem returnEvent_portB (p : Part) (ev : RxEvent) : (returnEvent p ev).portB = p.portB := by
  unfold returnEvent
  (repeat' split) <;> simp
@[simp] theorem returnEvent_timeBase (p : Part) (ev : RxEvent) : (returnEvent p ev).timeBase = p.timeBase := by
  unfold returnEvent
  (repeat' split) <;> simp
@[simp] theorem returnEvent_streams (p : Part) (ev : RxEvent) : (returnEvent p ev).streams = p.streams := by
  unfold returnEvent
  (repeat' split) <;> simp
@[simp] theorem returnEvent_engine (p : Part) (ev : RxEvent) : (returnEvent p ev).engine = p.engine := by
  unfold returnEvent
  (repeat' split) <;> simp
@[simp] theorem returnEvent_sorter (p : Part) (ev : RxEvent) : (returnEvent p ev).sorter = p.sorter := by
  unfold returnEvent
  (repeat' split) <;> simp
@[simp] theorem returnEvent_lanes (p : Part) (ev : RxEvent) : (returnEvent p ev).lanes = p.lanes := by
  unfold returnEvent
  (repeat' split) <;> simp
@[simp] theorem returnEvent_control (p : Part) (ev : RxEvent) : (returnEvent p ev).control = p.control := by
  unfold returnEvent
  (repeat' split) <;> simp
@[simp] theorem returnEvent_attention (p : Part) (ev : RxEvent) : (returnEvent p ev).attention = p.attention := by
  unfold returnEvent
  (repeat' split) <;> simp

@[simp] theorem returnEvents_clock (evs : List RxEvent) (p : Part) : (evs.foldl returnEvent p).clock = p.clock := by
  induction evs generalizing p with
  | nil => rfl
  | cons e evs ih => simp [ih]
@[simp] theorem returnEvents_idleSpan (evs : List RxEvent) (p : Part) : (evs.foldl returnEvent p).idleSpan = p.idleSpan := by
  induction evs generalizing p with
  | nil => rfl
  | cons e evs ih => simp [ih]
@[simp] theorem returnEvents_freeUses (evs : List RxEvent) (p : Part) : (evs.foldl returnEvent p).freeUses = p.freeUses := by
  induction evs generalizing p with
  | nil => rfl
  | cons e evs ih => simp [ih]
@[simp] theorem returnEvents_pins (evs : List RxEvent) (p : Part) : (evs.foldl returnEvent p).pins = p.pins := by
  induction evs generalizing p with
  | nil => rfl
  | cons e evs ih => simp [ih]
@[simp] theorem returnEvents_straps (evs : List RxEvent) (p : Part) : (evs.foldl returnEvent p).straps = p.straps := by
  induction evs generalizing p with
  | nil => rfl
  | cons e evs ih => simp [ih]
@[simp] theorem returnEvents_lastReset (evs : List RxEvent) (p : Part) : (evs.foldl returnEvent p).lastReset = p.lastReset := by
  induction evs generalizing p with
  | nil => rfl
  | cons e evs ih => simp [ih]
@[simp] theorem returnEvents_filing (evs : List RxEvent) (p : Part) : (evs.foldl returnEvent p).filing = p.filing := by
  induction evs generalizing p with
  | nil => rfl
  | cons e evs ih => simp [ih]
@[simp] theorem returnEvents_portA (evs : List RxEvent) (p : Part) : (evs.foldl returnEvent p).portA = p.portA := by
  induction evs generalizing p with
  | nil => rfl
  | cons e evs ih => simp [ih]
@[simp] theorem returnEvents_portB (evs : List RxEvent) (p : Part) : (evs.foldl returnEvent p).portB = p.portB := by
  induction evs generalizing p with
  | nil => rfl
  | cons e evs ih => simp [ih]
@[simp] theorem returnEvents_timeBase (evs : List RxEvent) (p : Part) : (evs.foldl returnEvent p).timeBase = p.timeBase := by
  induction evs generalizing p with
  | nil => rfl
  | cons e evs ih => simp [ih]
@[simp] theorem returnEvents_streams (evs : List RxEvent) (p : Part) : (evs.foldl returnEvent p).streams = p.streams := by
  induction evs generalizing p with
  | nil => rfl
  | cons e evs ih => simp [ih]
@[simp] theorem returnEvents_engine (evs : List RxEvent) (p : Part) : (evs.foldl returnEvent p).engine = p.engine := by
  induction evs generalizing p with
  | nil => rfl
  | cons e evs ih => simp [ih]
@[simp] theorem returnEvents_sorter (evs : List RxEvent) (p : Part) : (evs.foldl returnEvent p).sorter = p.sorter := by
  induction evs generalizing p with
  | nil => rfl
  | cons e evs ih => simp [ih]
@[simp] theorem returnEvents_lanes (evs : List RxEvent) (p : Part) : (evs.foldl returnEvent p).lanes = p.lanes := by
  induction evs generalizing p with
  | nil => rfl
  | cons e evs ih => simp [ih]
@[simp] theorem returnEvents_control (evs : List RxEvent) (p : Part) : (evs.foldl returnEvent p).control = p.control := by
  induction evs generalizing p with
  | nil => rfl
  | cons e evs ih => simp [ih]
@[simp] theorem returnEvents_attention (evs : List RxEvent) (p : Part) : (evs.foldl returnEvent p).attention = p.attention := by
  induction evs generalizing p with
  | nil => rfl
  | cons e evs ih => simp [ih]

@[simp] theorem returnByte_clock (b : Byte) (p : Part) : (returnByte b p).clock = p.clock := by
  unfold returnByte
  (repeat' split) <;> simp
@[simp] theorem returnByte_idleSpan (b : Byte) (p : Part) : (returnByte b p).idleSpan = p.idleSpan := by
  unfold returnByte
  (repeat' split) <;> simp
@[simp] theorem returnByte_freeUses (b : Byte) (p : Part) : (returnByte b p).freeUses = p.freeUses := by
  unfold returnByte
  (repeat' split) <;> simp
@[simp] theorem returnByte_pins (b : Byte) (p : Part) : (returnByte b p).pins = p.pins := by
  unfold returnByte
  (repeat' split) <;> simp
@[simp] theorem returnByte_straps (b : Byte) (p : Part) : (returnByte b p).straps = p.straps := by
  unfold returnByte
  (repeat' split) <;> simp
@[simp] theorem returnByte_lastReset (b : Byte) (p : Part) : (returnByte b p).lastReset = p.lastReset := by
  unfold returnByte
  (repeat' split) <;> simp
@[simp] theorem returnByte_filing (b : Byte) (p : Part) : (returnByte b p).filing = p.filing := by
  unfold returnByte
  (repeat' split) <;> simp
@[simp] theorem returnByte_portA (b : Byte) (p : Part) : (returnByte b p).portA = p.portA := by
  unfold returnByte
  (repeat' split) <;> simp
@[simp] theorem returnByte_portB (b : Byte) (p : Part) : (returnByte b p).portB = p.portB := by
  unfold returnByte
  (repeat' split) <;> simp
@[simp] theorem returnByte_timeBase (b : Byte) (p : Part) : (returnByte b p).timeBase = p.timeBase := by
  unfold returnByte
  (repeat' split) <;> simp
@[simp] theorem returnByte_streams (b : Byte) (p : Part) : (returnByte b p).streams = p.streams := by
  unfold returnByte
  (repeat' split) <;> simp
@[simp] theorem returnByte_engine (b : Byte) (p : Part) : (returnByte b p).engine = p.engine := by
  unfold returnByte
  (repeat' split) <;> simp
@[simp] theorem returnByte_sorter (b : Byte) (p : Part) : (returnByte b p).sorter = p.sorter := by
  unfold returnByte
  (repeat' split) <;> simp
@[simp] theorem returnByte_lanes (b : Byte) (p : Part) : (returnByte b p).lanes = p.lanes := by
  unfold returnByte
  (repeat' split) <;> simp
@[simp] theorem returnByte_control (b : Byte) (p : Part) : (returnByte b p).control = p.control := by
  unfold returnByte
  (repeat' split) <;> simp
@[simp] theorem returnByte_attention (b : Byte) (p : Part) : (returnByte b p).attention = p.attention := by
  unfold returnByte
  (repeat' split) <;> simp

@[simp] theorem returnGap_clock (p : Part) : (returnGap p).clock = p.clock := by
  unfold returnGap
  (repeat' split) <;> simp
@[simp] theorem returnGap_idleSpan (p : Part) : (returnGap p).idleSpan = p.idleSpan := by
  unfold returnGap
  (repeat' split) <;> simp
@[simp] theorem returnGap_freeUses (p : Part) : (returnGap p).freeUses = p.freeUses := by
  unfold returnGap
  (repeat' split) <;> simp
@[simp] theorem returnGap_pins (p : Part) : (returnGap p).pins = p.pins := by
  unfold returnGap
  (repeat' split) <;> simp
@[simp] theorem returnGap_straps (p : Part) : (returnGap p).straps = p.straps := by
  unfold returnGap
  (repeat' split) <;> simp
@[simp] theorem returnGap_lastReset (p : Part) : (returnGap p).lastReset = p.lastReset := by
  unfold returnGap
  (repeat' split) <;> simp
@[simp] theorem returnGap_filing (p : Part) : (returnGap p).filing = p.filing := by
  unfold returnGap
  (repeat' split) <;> simp
@[simp] theorem returnGap_portA (p : Part) : (returnGap p).portA = p.portA := by
  unfold returnGap
  (repeat' split) <;> simp
@[simp] theorem returnGap_portB (p : Part) : (returnGap p).portB = p.portB := by
  unfold returnGap
  (repeat' split) <;> simp
@[simp] theorem returnGap_timeBase (p : Part) : (returnGap p).timeBase = p.timeBase := by
  unfold returnGap
  (repeat' split) <;> simp
@[simp] theorem returnGap_streams (p : Part) : (returnGap p).streams = p.streams := by
  unfold returnGap
  (repeat' split) <;> simp
@[simp] theorem returnGap_engine (p : Part) : (returnGap p).engine = p.engine := by
  unfold returnGap
  (repeat' split) <;> simp
@[simp] theorem returnGap_sorter (p : Part) : (returnGap p).sorter = p.sorter := by
  unfold returnGap
  (repeat' split) <;> simp
@[simp] theorem returnGap_lanes (p : Part) : (returnGap p).lanes = p.lanes := by
  unfold returnGap
  (repeat' split) <;> simp
@[simp] theorem returnGap_store (p : Part) : (returnGap p).store = p.store := by
  unfold returnGap
  (repeat' split) <;> simp
@[simp] theorem returnGap_control (p : Part) : (returnGap p).control = p.control := by
  unfold returnGap
  (repeat' split) <;> simp
@[simp] theorem returnGap_attention (p : Part) : (returnGap p).attention = p.attention := by
  unfold returnGap
  (repeat' split) <;> simp

@[simp] theorem pauseLimitExpiry_clock (p : Part) : (pauseLimitExpiry p).clock = p.clock := by
  unfold pauseLimitExpiry
  (repeat' split) <;> simp
@[simp] theorem pauseLimitExpiry_idleSpan (p : Part) : (pauseLimitExpiry p).idleSpan = p.idleSpan := by
  unfold pauseLimitExpiry
  (repeat' split) <;> simp
@[simp] theorem pauseLimitExpiry_freeUses (p : Part) : (pauseLimitExpiry p).freeUses = p.freeUses := by
  unfold pauseLimitExpiry
  (repeat' split) <;> simp
@[simp] theorem pauseLimitExpiry_pins (p : Part) : (pauseLimitExpiry p).pins = p.pins := by
  unfold pauseLimitExpiry
  (repeat' split) <;> simp
@[simp] theorem pauseLimitExpiry_straps (p : Part) : (pauseLimitExpiry p).straps = p.straps := by
  unfold pauseLimitExpiry
  (repeat' split) <;> simp
@[simp] theorem pauseLimitExpiry_lastReset (p : Part) : (pauseLimitExpiry p).lastReset = p.lastReset := by
  unfold pauseLimitExpiry
  (repeat' split) <;> simp
@[simp] theorem pauseLimitExpiry_filing (p : Part) : (pauseLimitExpiry p).filing = p.filing := by
  unfold pauseLimitExpiry
  (repeat' split) <;> simp
@[simp] theorem pauseLimitExpiry_portA (p : Part) : (pauseLimitExpiry p).portA = p.portA := by
  unfold pauseLimitExpiry
  (repeat' split) <;> simp
@[simp] theorem pauseLimitExpiry_portB (p : Part) : (pauseLimitExpiry p).portB = p.portB := by
  unfold pauseLimitExpiry
  (repeat' split) <;> simp
@[simp] theorem pauseLimitExpiry_timeBase (p : Part) : (pauseLimitExpiry p).timeBase = p.timeBase := by
  unfold pauseLimitExpiry
  (repeat' split) <;> simp
@[simp] theorem pauseLimitExpiry_streams (p : Part) : (pauseLimitExpiry p).streams = p.streams := by
  unfold pauseLimitExpiry
  (repeat' split) <;> simp
@[simp] theorem pauseLimitExpiry_engine (p : Part) : (pauseLimitExpiry p).engine = p.engine := by
  unfold pauseLimitExpiry
  (repeat' split) <;> simp
@[simp] theorem pauseLimitExpiry_sorter (p : Part) : (pauseLimitExpiry p).sorter = p.sorter := by
  unfold pauseLimitExpiry
  (repeat' split) <;> simp
@[simp] theorem pauseLimitExpiry_lanes (p : Part) : (pauseLimitExpiry p).lanes = p.lanes := by
  unfold pauseLimitExpiry
  (repeat' split) <;> simp

@[simp] theorem recordEnd_clock (p : Part) : (recordEnd p).clock = p.clock := by
  unfold recordEnd
  (repeat' split) <;> simp
@[simp] theorem recordEnd_idleSpan (p : Part) : (recordEnd p).idleSpan = p.idleSpan := by
  unfold recordEnd
  (repeat' split) <;> simp
@[simp] theorem recordEnd_pins (p : Part) : (recordEnd p).pins = p.pins := by
  unfold recordEnd
  (repeat' split) <;> simp
@[simp] theorem recordEnd_straps (p : Part) : (recordEnd p).straps = p.straps := by
  unfold recordEnd
  (repeat' split) <;> simp
@[simp] theorem recordEnd_lastReset (p : Part) : (recordEnd p).lastReset = p.lastReset := by
  unfold recordEnd
  (repeat' split) <;> simp
@[simp] theorem recordEnd_filing (p : Part) : (recordEnd p).filing = p.filing := by
  unfold recordEnd
  (repeat' split) <;> simp
@[simp] theorem recordEnd_portA (p : Part) : (recordEnd p).portA = p.portA := by
  unfold recordEnd
  (repeat' split) <;> simp
@[simp] theorem recordEnd_portB (p : Part) : (recordEnd p).portB = p.portB := by
  unfold recordEnd
  (repeat' split) <;> simp
@[simp] theorem recordEnd_timeBase (p : Part) : (recordEnd p).timeBase = p.timeBase := by
  unfold recordEnd
  (repeat' split) <;> simp
@[simp] theorem recordEnd_sorter (p : Part) : (recordEnd p).sorter = p.sorter := by
  unfold recordEnd
  (repeat' split) <;> simp
@[simp] theorem recordEnd_lanes (p : Part) : (recordEnd p).lanes = p.lanes := by
  unfold recordEnd
  (repeat' split) <;> simp

@[simp] theorem takeEnvelope_clock (b : List Byte) (p : Part) : (takeEnvelope b p).clock = p.clock := by
  unfold takeEnvelope
  (repeat' split) <;> simp
@[simp] theorem takeEnvelope_idleSpan (b : List Byte) (p : Part) : (takeEnvelope b p).idleSpan = p.idleSpan := by
  unfold takeEnvelope
  (repeat' split) <;> simp
@[simp] theorem takeEnvelope_freeUses (b : List Byte) (p : Part) : (takeEnvelope b p).freeUses = p.freeUses := by
  unfold takeEnvelope
  (repeat' split) <;> simp
@[simp] theorem takeEnvelope_pins (b : List Byte) (p : Part) : (takeEnvelope b p).pins = p.pins := by
  unfold takeEnvelope
  (repeat' split) <;> simp
@[simp] theorem takeEnvelope_straps (b : List Byte) (p : Part) : (takeEnvelope b p).straps = p.straps := by
  unfold takeEnvelope
  (repeat' split) <;> simp
@[simp] theorem takeEnvelope_lastReset (b : List Byte) (p : Part) : (takeEnvelope b p).lastReset = p.lastReset := by
  unfold takeEnvelope
  (repeat' split) <;> simp
@[simp] theorem takeEnvelope_filing (b : List Byte) (p : Part) : (takeEnvelope b p).filing = p.filing := by
  unfold takeEnvelope
  (repeat' split) <;> simp
@[simp] theorem takeEnvelope_portA (b : List Byte) (p : Part) : (takeEnvelope b p).portA = p.portA := by
  unfold takeEnvelope
  (repeat' split) <;> simp
@[simp] theorem takeEnvelope_portB (b : List Byte) (p : Part) : (takeEnvelope b p).portB = p.portB := by
  unfold takeEnvelope
  (repeat' split) <;> simp
@[simp] theorem takeEnvelope_timeBase (b : List Byte) (p : Part) : (takeEnvelope b p).timeBase = p.timeBase := by
  unfold takeEnvelope
  (repeat' split) <;> simp
@[simp] theorem takeEnvelope_streams (b : List Byte) (p : Part) : (takeEnvelope b p).streams = p.streams := by
  unfold takeEnvelope
  (repeat' split) <;> simp
@[simp] theorem takeEnvelope_engine (b : List Byte) (p : Part) : (takeEnvelope b p).engine = p.engine := by
  unfold takeEnvelope
  (repeat' split) <;> simp
@[simp] theorem takeEnvelope_sorter (b : List Byte) (p : Part) : (takeEnvelope b p).sorter = p.sorter := by
  unfold takeEnvelope
  (repeat' split) <;> simp
@[simp] theorem takeEnvelope_lanes (b : List Byte) (p : Part) : (takeEnvelope b p).lanes = p.lanes := by
  unfold takeEnvelope
  (repeat' split) <;> simp
@[simp] theorem takeEnvelope_store (b : List Byte) (p : Part) : (takeEnvelope b p).store = p.store := by
  unfold takeEnvelope
  (repeat' split) <;> simp
@[simp] theorem takeEnvelope_egress (b : List Byte) (p : Part) : (takeEnvelope b p).egress = p.egress := by
  unfold takeEnvelope
  (repeat' split) <;> simp
@[simp] theorem takeEnvelope_attention (b : List Byte) (p : Part) : (takeEnvelope b p).attention = p.attention := by
  unfold takeEnvelope
  (repeat' split) <;> simp

@[simp] theorem controlEvent_clock (p : Part) (ev : RxEvent) : (controlEvent p ev).clock = p.clock := by
  unfold controlEvent
  (repeat' split) <;> simp
@[simp] theorem controlEvent_idleSpan (p : Part) (ev : RxEvent) : (controlEvent p ev).idleSpan = p.idleSpan := by
  unfold controlEvent
  (repeat' split) <;> simp
@[simp] theorem controlEvent_freeUses (p : Part) (ev : RxEvent) : (controlEvent p ev).freeUses = p.freeUses := by
  unfold controlEvent
  (repeat' split) <;> simp
@[simp] theorem controlEvent_pins (p : Part) (ev : RxEvent) : (controlEvent p ev).pins = p.pins := by
  unfold controlEvent
  (repeat' split) <;> simp
@[simp] theorem controlEvent_straps (p : Part) (ev : RxEvent) : (controlEvent p ev).straps = p.straps := by
  unfold controlEvent
  (repeat' split) <;> simp
@[simp] theorem controlEvent_lastReset (p : Part) (ev : RxEvent) : (controlEvent p ev).lastReset = p.lastReset := by
  unfold controlEvent
  (repeat' split) <;> simp
@[simp] theorem controlEvent_filing (p : Part) (ev : RxEvent) : (controlEvent p ev).filing = p.filing := by
  unfold controlEvent
  (repeat' split) <;> simp
@[simp] theorem controlEvent_portA (p : Part) (ev : RxEvent) : (controlEvent p ev).portA = p.portA := by
  unfold controlEvent
  (repeat' split) <;> simp
@[simp] theorem controlEvent_portB (p : Part) (ev : RxEvent) : (controlEvent p ev).portB = p.portB := by
  unfold controlEvent
  (repeat' split) <;> simp
@[simp] theorem controlEvent_timeBase (p : Part) (ev : RxEvent) : (controlEvent p ev).timeBase = p.timeBase := by
  unfold controlEvent
  (repeat' split) <;> simp
@[simp] theorem controlEvent_streams (p : Part) (ev : RxEvent) : (controlEvent p ev).streams = p.streams := by
  unfold controlEvent
  (repeat' split) <;> simp
@[simp] theorem controlEvent_engine (p : Part) (ev : RxEvent) : (controlEvent p ev).engine = p.engine := by
  unfold controlEvent
  (repeat' split) <;> simp
@[simp] theorem controlEvent_sorter (p : Part) (ev : RxEvent) : (controlEvent p ev).sorter = p.sorter := by
  unfold controlEvent
  (repeat' split) <;> simp
@[simp] theorem controlEvent_lanes (p : Part) (ev : RxEvent) : (controlEvent p ev).lanes = p.lanes := by
  unfold controlEvent
  (repeat' split) <;> simp
@[simp] theorem controlEvent_store (p : Part) (ev : RxEvent) : (controlEvent p ev).store = p.store := by
  unfold controlEvent
  (repeat' split) <;> simp
@[simp] theorem controlEvent_egress (p : Part) (ev : RxEvent) : (controlEvent p ev).egress = p.egress := by
  unfold controlEvent
  (repeat' split) <;> simp
@[simp] theorem controlEvent_attention (p : Part) (ev : RxEvent) : (controlEvent p ev).attention = p.attention := by
  unfold controlEvent
  (repeat' split) <;> simp

@[simp] theorem controlEvents_clock (evs : List RxEvent) (p : Part) : (evs.foldl controlEvent p).clock = p.clock := by
  induction evs generalizing p with
  | nil => rfl
  | cons e evs ih => simp [ih]
@[simp] theorem controlEvents_idleSpan (evs : List RxEvent) (p : Part) : (evs.foldl controlEvent p).idleSpan = p.idleSpan := by
  induction evs generalizing p with
  | nil => rfl
  | cons e evs ih => simp [ih]
@[simp] theorem controlEvents_freeUses (evs : List RxEvent) (p : Part) : (evs.foldl controlEvent p).freeUses = p.freeUses := by
  induction evs generalizing p with
  | nil => rfl
  | cons e evs ih => simp [ih]
@[simp] theorem controlEvents_pins (evs : List RxEvent) (p : Part) : (evs.foldl controlEvent p).pins = p.pins := by
  induction evs generalizing p with
  | nil => rfl
  | cons e evs ih => simp [ih]
@[simp] theorem controlEvents_straps (evs : List RxEvent) (p : Part) : (evs.foldl controlEvent p).straps = p.straps := by
  induction evs generalizing p with
  | nil => rfl
  | cons e evs ih => simp [ih]
@[simp] theorem controlEvents_lastReset (evs : List RxEvent) (p : Part) : (evs.foldl controlEvent p).lastReset = p.lastReset := by
  induction evs generalizing p with
  | nil => rfl
  | cons e evs ih => simp [ih]
@[simp] theorem controlEvents_filing (evs : List RxEvent) (p : Part) : (evs.foldl controlEvent p).filing = p.filing := by
  induction evs generalizing p with
  | nil => rfl
  | cons e evs ih => simp [ih]
@[simp] theorem controlEvents_portA (evs : List RxEvent) (p : Part) : (evs.foldl controlEvent p).portA = p.portA := by
  induction evs generalizing p with
  | nil => rfl
  | cons e evs ih => simp [ih]
@[simp] theorem controlEvents_portB (evs : List RxEvent) (p : Part) : (evs.foldl controlEvent p).portB = p.portB := by
  induction evs generalizing p with
  | nil => rfl
  | cons e evs ih => simp [ih]
@[simp] theorem controlEvents_timeBase (evs : List RxEvent) (p : Part) : (evs.foldl controlEvent p).timeBase = p.timeBase := by
  induction evs generalizing p with
  | nil => rfl
  | cons e evs ih => simp [ih]
@[simp] theorem controlEvents_streams (evs : List RxEvent) (p : Part) : (evs.foldl controlEvent p).streams = p.streams := by
  induction evs generalizing p with
  | nil => rfl
  | cons e evs ih => simp [ih]
@[simp] theorem controlEvents_engine (evs : List RxEvent) (p : Part) : (evs.foldl controlEvent p).engine = p.engine := by
  induction evs generalizing p with
  | nil => rfl
  | cons e evs ih => simp [ih]
@[simp] theorem controlEvents_sorter (evs : List RxEvent) (p : Part) : (evs.foldl controlEvent p).sorter = p.sorter := by
  induction evs generalizing p with
  | nil => rfl
  | cons e evs ih => simp [ih]
@[simp] theorem controlEvents_lanes (evs : List RxEvent) (p : Part) : (evs.foldl controlEvent p).lanes = p.lanes := by
  induction evs generalizing p with
  | nil => rfl
  | cons e evs ih => simp [ih]
@[simp] theorem controlEvents_store (evs : List RxEvent) (p : Part) : (evs.foldl controlEvent p).store = p.store := by
  induction evs generalizing p with
  | nil => rfl
  | cons e evs ih => simp [ih]
@[simp] theorem controlEvents_egress (evs : List RxEvent) (p : Part) : (evs.foldl controlEvent p).egress = p.egress := by
  induction evs generalizing p with
  | nil => rfl
  | cons e evs ih => simp [ih]
@[simp] theorem controlEvents_attention (evs : List RxEvent) (p : Part) : (evs.foldl controlEvent p).attention = p.attention := by
  induction evs generalizing p with
  | nil => rfl
  | cons e evs ih => simp [ih]

@[simp] theorem controlByte_clock (b : Byte) (p : Part) : (controlByte b p).clock = p.clock := by
  unfold controlByte
  (repeat' split) <;> simp
@[simp] theorem controlByte_idleSpan (b : Byte) (p : Part) : (controlByte b p).idleSpan = p.idleSpan := by
  unfold controlByte
  (repeat' split) <;> simp
@[simp] theorem controlByte_freeUses (b : Byte) (p : Part) : (controlByte b p).freeUses = p.freeUses := by
  unfold controlByte
  (repeat' split) <;> simp
@[simp] theorem controlByte_pins (b : Byte) (p : Part) : (controlByte b p).pins = p.pins := by
  unfold controlByte
  (repeat' split) <;> simp
@[simp] theorem controlByte_straps (b : Byte) (p : Part) : (controlByte b p).straps = p.straps := by
  unfold controlByte
  (repeat' split) <;> simp
@[simp] theorem controlByte_lastReset (b : Byte) (p : Part) : (controlByte b p).lastReset = p.lastReset := by
  unfold controlByte
  (repeat' split) <;> simp
@[simp] theorem controlByte_filing (b : Byte) (p : Part) : (controlByte b p).filing = p.filing := by
  unfold controlByte
  (repeat' split) <;> simp
@[simp] theorem controlByte_portA (b : Byte) (p : Part) : (controlByte b p).portA = p.portA := by
  unfold controlByte
  (repeat' split) <;> simp
@[simp] theorem controlByte_portB (b : Byte) (p : Part) : (controlByte b p).portB = p.portB := by
  unfold controlByte
  (repeat' split) <;> simp
@[simp] theorem controlByte_timeBase (b : Byte) (p : Part) : (controlByte b p).timeBase = p.timeBase := by
  unfold controlByte
  (repeat' split) <;> simp
@[simp] theorem controlByte_streams (b : Byte) (p : Part) : (controlByte b p).streams = p.streams := by
  unfold controlByte
  (repeat' split) <;> simp
@[simp] theorem controlByte_engine (b : Byte) (p : Part) : (controlByte b p).engine = p.engine := by
  unfold controlByte
  (repeat' split) <;> simp
@[simp] theorem controlByte_sorter (b : Byte) (p : Part) : (controlByte b p).sorter = p.sorter := by
  unfold controlByte
  (repeat' split) <;> simp
@[simp] theorem controlByte_lanes (b : Byte) (p : Part) : (controlByte b p).lanes = p.lanes := by
  unfold controlByte
  (repeat' split) <;> simp
@[simp] theorem controlByte_store (b : Byte) (p : Part) : (controlByte b p).store = p.store := by
  unfold controlByte
  (repeat' split) <;> simp
@[simp] theorem controlByte_egress (b : Byte) (p : Part) : (controlByte b p).egress = p.egress := by
  unfold controlByte
  (repeat' split) <;> simp
@[simp] theorem controlByte_attention (b : Byte) (p : Part) : (controlByte b p).attention = p.attention := by
  unfold controlByte
  (repeat' split) <;> simp

@[simp] theorem controlGap_clock (p : Part) : (controlGap p).clock = p.clock := by
  unfold controlGap
  (repeat' split) <;> simp
@[simp] theorem controlGap_idleSpan (p : Part) : (controlGap p).idleSpan = p.idleSpan := by
  unfold controlGap
  (repeat' split) <;> simp
@[simp] theorem controlGap_freeUses (p : Part) : (controlGap p).freeUses = p.freeUses := by
  unfold controlGap
  (repeat' split) <;> simp
@[simp] theorem controlGap_pins (p : Part) : (controlGap p).pins = p.pins := by
  unfold controlGap
  (repeat' split) <;> simp
@[simp] theorem controlGap_straps (p : Part) : (controlGap p).straps = p.straps := by
  unfold controlGap
  (repeat' split) <;> simp
@[simp] theorem controlGap_lastReset (p : Part) : (controlGap p).lastReset = p.lastReset := by
  unfold controlGap
  (repeat' split) <;> simp
@[simp] theorem controlGap_filing (p : Part) : (controlGap p).filing = p.filing := by
  unfold controlGap
  (repeat' split) <;> simp
@[simp] theorem controlGap_portA (p : Part) : (controlGap p).portA = p.portA := by
  unfold controlGap
  (repeat' split) <;> simp
@[simp] theorem controlGap_portB (p : Part) : (controlGap p).portB = p.portB := by
  unfold controlGap
  (repeat' split) <;> simp
@[simp] theorem controlGap_timeBase (p : Part) : (controlGap p).timeBase = p.timeBase := by
  unfold controlGap
  (repeat' split) <;> simp
@[simp] theorem controlGap_streams (p : Part) : (controlGap p).streams = p.streams := by
  unfold controlGap
  (repeat' split) <;> simp
@[simp] theorem controlGap_engine (p : Part) : (controlGap p).engine = p.engine := by
  unfold controlGap
  (repeat' split) <;> simp
@[simp] theorem controlGap_sorter (p : Part) : (controlGap p).sorter = p.sorter := by
  unfold controlGap
  (repeat' split) <;> simp
@[simp] theorem controlGap_lanes (p : Part) : (controlGap p).lanes = p.lanes := by
  unfold controlGap
  (repeat' split) <;> simp
@[simp] theorem controlGap_store (p : Part) : (controlGap p).store = p.store := by
  unfold controlGap
  (repeat' split) <;> simp
@[simp] theorem controlGap_egress (p : Part) : (controlGap p).egress = p.egress := by
  unfold controlGap
  (repeat' split) <;> simp
@[simp] theorem controlGap_attention (p : Part) : (controlGap p).attention = p.attention := by
  unfold controlGap
  (repeat' split) <;> simp

@[simp] theorem messageEnd_clock (p : Part) : (messageEnd p).clock = p.clock := by
  unfold messageEnd
  (repeat' split) <;> simp
@[simp] theorem messageEnd_idleSpan (p : Part) : (messageEnd p).idleSpan = p.idleSpan := by
  unfold messageEnd
  (repeat' split) <;> simp
@[simp] theorem messageEnd_freeUses (p : Part) : (messageEnd p).freeUses = p.freeUses := by
  unfold messageEnd
  (repeat' split) <;> simp
@[simp] theorem messageEnd_pins (p : Part) : (messageEnd p).pins = p.pins := by
  unfold messageEnd
  (repeat' split) <;> simp
@[simp] theorem messageEnd_straps (p : Part) : (messageEnd p).straps = p.straps := by
  unfold messageEnd
  (repeat' split) <;> simp
@[simp] theorem messageEnd_lastReset (p : Part) : (messageEnd p).lastReset = p.lastReset := by
  unfold messageEnd
  (repeat' split) <;> simp
@[simp] theorem messageEnd_filing (p : Part) : (messageEnd p).filing = p.filing := by
  unfold messageEnd
  (repeat' split) <;> simp
@[simp] theorem messageEnd_portA (p : Part) : (messageEnd p).portA = p.portA := by
  unfold messageEnd
  (repeat' split) <;> simp
@[simp] theorem messageEnd_portB (p : Part) : (messageEnd p).portB = p.portB := by
  unfold messageEnd
  (repeat' split) <;> simp
@[simp] theorem messageEnd_timeBase (p : Part) : (messageEnd p).timeBase = p.timeBase := by
  unfold messageEnd
  (repeat' split) <;> simp
@[simp] theorem messageEnd_streams (p : Part) : (messageEnd p).streams = p.streams := by
  unfold messageEnd
  (repeat' split) <;> simp
@[simp] theorem messageEnd_engine (p : Part) : (messageEnd p).engine = p.engine := by
  unfold messageEnd
  (repeat' split) <;> simp
@[simp] theorem messageEnd_sorter (p : Part) : (messageEnd p).sorter = p.sorter := by
  unfold messageEnd
  (repeat' split) <;> simp
@[simp] theorem messageEnd_lanes (p : Part) : (messageEnd p).lanes = p.lanes := by
  unfold messageEnd
  (repeat' split) <;> simp
@[simp] theorem messageEnd_store (p : Part) : (messageEnd p).store = p.store := by
  unfold messageEnd
  (repeat' split) <;> simp
@[simp] theorem messageEnd_egress (p : Part) : (messageEnd p).egress = p.egress := by
  unfold messageEnd
  (repeat' split) <;> simp
@[simp] theorem messageEnd_attention (p : Part) : (messageEnd p).attention = p.attention := by
  unfold messageEnd
  (repeat' split) <;> simp

end Sys2Proof.Machine
end

