-- ==== Sys2Proof/WellFormed.lean ====
section
/-! DEFINITION. When a command is well formed. Ports, lanes, levels, straps and bytes are limited by their types; a
deadline expiry names a label, whose second is a grid second (32 bits, 00_scope) and whose tick is below the
largest output rate, 120. -/

namespace Sys2Proof

/-- A label some output rate can have. -/
def Label.wellFormed (l : Label) : Bool := decide (l.second < 4294967296) && decide (l.tick < 120)

/-- The check of a command. -/
def Instr.wellFormed : Instr → Bool
  | .deadlineExpiry l => l.wellFormed
  | .powerOn _ | .resetNAssert | .pin _ | .isolateAsserted | .isolateRemoved | .carrierChange _ _
  | .pulse _ | .timeMessage _ _ | .timeMessageError _ _ | .tmsgGapExpiry _ | .missingPulseExpiry _
  | .silenceExpiry _ | .holdoverSecond | .slewEnd | .strobe | .sort | .laneHeader _ _
  | .laneFrameEnd _ _ | .laneGapExpiry _ | .flowFrameEnd _ | .sweepVerdict _ | .recordEnd | .pause _
  | .resume _ | .returnEnvelopeError _ | .returnGapExpiry | .pauseLimitExpiry | .requestArrival _
  | .controlEnvelopeError _ | .controlGapExpiry | .messageEnd | .unknownRequest | .identify
  | .restartFull | .restartAlignment | .readTime | .configureReference | .selectReference
  | .registerStream | .alterStream | .suspendStream | .resumeStream | .retireStream | .readStream
  | .readChanges | .readStrangers | .configureAlignment | .realignmentComplete | .flushWindow
  | .readWindow | .readSorter | .configureLane | .readLane | .readPool | .setPoolMark
  | .configureEgress | .holdEgress | .resumeEgress | .readEgress | .readAttention
  | .setAttentionMask | .setLoopback | .injectFrame | .sweepStore | .laneByte _ _
  | .controlLinkByte _ | .tmsgByte _ _ | .returnLinkByte _ => true

/-- A command is well formed when its check answers yes. -/
abbrev Instr.WellFormed (i : Instr) : Prop := i.wellFormed = true

end Sys2Proof
end

