-- ==== Sys2Proof/Laws/PerInstr.lean ====
section
/-! SUPPORT. What the check of a command says, command by command: it says no to a deadline expiry whose label no
output rate has, and to nothing else. -/

namespace Sys2Proof.Laws.WellFormed

/-- The check passes exactly where a deadline expiry, if the command is one, names a possible label. -/
def Statement (i : Instr) : Prop :=
  i.WellFormed ↔ ∀ l, i = .deadlineExpiry l → l.second < 4294967296 ∧ l.tick < 120

/-- A command whose check always passes and that is no deadline expiry. -/
theorem always {i : Instr} (h : i.wellFormed = true) (hn : ∀ l, i ≠ .deadlineExpiry l) : Statement i :=
  ⟨fun _ l hl => absurd hl (hn l), fun _ => h⟩

theorem powerOn (straps : Straps) : Statement (.powerOn straps) := always rfl (fun _ h => nomatch h)

theorem resetNAssert : Statement (.resetNAssert) := always rfl (fun _ h => nomatch h)

theorem pin (straps : Straps) : Statement (.pin straps) := always rfl (fun _ h => nomatch h)

theorem isolateAsserted : Statement (.isolateAsserted) := always rfl (fun _ h => nomatch h)

theorem isolateRemoved : Statement (.isolateRemoved) := always rfl (fun _ h => nomatch h)

theorem carrierChange (lane : LaneId) (high : Bool) : Statement (.carrierChange lane high) := always rfl (fun _ h => nomatch h)

theorem pulse (port : RefPort) : Statement (.pulse port) := always rfl (fun _ h => nomatch h)

theorem timeMessage (port : RefPort) (b : Byte) : Statement (.timeMessage port b) := always rfl (fun _ h => nomatch h)

theorem timeMessageError (port : RefPort) (b : Byte) : Statement (.timeMessageError port b) := always rfl (fun _ h => nomatch h)

theorem tmsgGapExpiry (port : RefPort) : Statement (.tmsgGapExpiry port) := always rfl (fun _ h => nomatch h)

theorem missingPulseExpiry (port : RefPort) : Statement (.missingPulseExpiry port) := always rfl (fun _ h => nomatch h)

theorem silenceExpiry (port : RefPort) : Statement (.silenceExpiry port) := always rfl (fun _ h => nomatch h)

theorem holdoverSecond : Statement (.holdoverSecond) := always rfl (fun _ h => nomatch h)

theorem slewEnd : Statement (.slewEnd) := always rfl (fun _ h => nomatch h)

theorem strobe : Statement (.strobe) := always rfl (fun _ h => nomatch h)

theorem deadlineExpiry (label : Label) : Statement (.deadlineExpiry label) := by
  simp [Statement, Instr.WellFormed, Instr.wellFormed, Label.wellFormed]

theorem sort : Statement (.sort) := always rfl (fun _ h => nomatch h)

theorem laneHeader (lane : LaneId) (b : Byte) : Statement (.laneHeader lane b) := always rfl (fun _ h => nomatch h)

theorem laneFrameEnd (lane : LaneId) (b : Byte) : Statement (.laneFrameEnd lane b) := always rfl (fun _ h => nomatch h)

theorem laneGapExpiry (lane : LaneId) : Statement (.laneGapExpiry lane) := always rfl (fun _ h => nomatch h)

theorem flowFrameEnd (lane : LaneId) : Statement (.flowFrameEnd lane) := always rfl (fun _ h => nomatch h)

theorem sweepVerdict (pass : Bool) : Statement (.sweepVerdict pass) := always rfl (fun _ h => nomatch h)

theorem recordEnd : Statement (.recordEnd) := always rfl (fun _ h => nomatch h)

theorem pause (b : Byte) : Statement (.pause b) := always rfl (fun _ h => nomatch h)

theorem resume (b : Byte) : Statement (.resume b) := always rfl (fun _ h => nomatch h)

theorem returnEnvelopeError (b : Byte) : Statement (.returnEnvelopeError b) := always rfl (fun _ h => nomatch h)

theorem returnGapExpiry : Statement (.returnGapExpiry) := always rfl (fun _ h => nomatch h)

theorem pauseLimitExpiry : Statement (.pauseLimitExpiry) := always rfl (fun _ h => nomatch h)

theorem requestArrival (b : Byte) : Statement (.requestArrival b) := always rfl (fun _ h => nomatch h)

theorem controlEnvelopeError (b : Byte) : Statement (.controlEnvelopeError b) := always rfl (fun _ h => nomatch h)

theorem controlGapExpiry : Statement (.controlGapExpiry) := always rfl (fun _ h => nomatch h)

theorem messageEnd : Statement (.messageEnd) := always rfl (fun _ h => nomatch h)

theorem unknownRequest : Statement (.unknownRequest) := always rfl (fun _ h => nomatch h)

theorem identify : Statement (.identify) := always rfl (fun _ h => nomatch h)

theorem restartFull : Statement (.restartFull) := always rfl (fun _ h => nomatch h)

theorem restartAlignment : Statement (.restartAlignment) := always rfl (fun _ h => nomatch h)

theorem readTime : Statement (.readTime) := always rfl (fun _ h => nomatch h)

theorem configureReference : Statement (.configureReference) := always rfl (fun _ h => nomatch h)

theorem selectReference : Statement (.selectReference) := always rfl (fun _ h => nomatch h)

theorem registerStream : Statement (.registerStream) := always rfl (fun _ h => nomatch h)

theorem alterStream : Statement (.alterStream) := always rfl (fun _ h => nomatch h)

theorem suspendStream : Statement (.suspendStream) := always rfl (fun _ h => nomatch h)

theorem resumeStream : Statement (.resumeStream) := always rfl (fun _ h => nomatch h)

theorem retireStream : Statement (.retireStream) := always rfl (fun _ h => nomatch h)

theorem readStream : Statement (.readStream) := always rfl (fun _ h => nomatch h)

theorem readChanges : Statement (.readChanges) := always rfl (fun _ h => nomatch h)

theorem readStrangers : Statement (.readStrangers) := always rfl (fun _ h => nomatch h)

theorem configureAlignment : Statement (.configureAlignment) := always rfl (fun _ h => nomatch h)

theorem realignmentComplete : Statement (.realignmentComplete) := always rfl (fun _ h => nomatch h)

theorem flushWindow : Statement (.flushWindow) := always rfl (fun _ h => nomatch h)

theorem readWindow : Statement (.readWindow) := always rfl (fun _ h => nomatch h)

theorem readSorter : Statement (.readSorter) := always rfl (fun _ h => nomatch h)

theorem configureLane : Statement (.configureLane) := always rfl (fun _ h => nomatch h)

theorem readLane : Statement (.readLane) := always rfl (fun _ h => nomatch h)

theorem readPool : Statement (.readPool) := always rfl (fun _ h => nomatch h)

theorem setPoolMark : Statement (.setPoolMark) := always rfl (fun _ h => nomatch h)

theorem configureEgress : Statement (.configureEgress) := always rfl (fun _ h => nomatch h)

theorem holdEgress : Statement (.holdEgress) := always rfl (fun _ h => nomatch h)

theorem resumeEgress : Statement (.resumeEgress) := always rfl (fun _ h => nomatch h)

theorem readEgress : Statement (.readEgress) := always rfl (fun _ h => nomatch h)

theorem readAttention : Statement (.readAttention) := always rfl (fun _ h => nomatch h)

theorem setAttentionMask : Statement (.setAttentionMask) := always rfl (fun _ h => nomatch h)

theorem setLoopback : Statement (.setLoopback) := always rfl (fun _ h => nomatch h)

theorem injectFrame : Statement (.injectFrame) := always rfl (fun _ h => nomatch h)

theorem sweepStore : Statement (.sweepStore) := always rfl (fun _ h => nomatch h)

theorem laneByte (lane : LaneId) (b : Byte) : Statement (.laneByte lane b) := always rfl (fun _ h => nomatch h)

theorem controlLinkByte (b : Byte) : Statement (.controlLinkByte b) := always rfl (fun _ h => nomatch h)

theorem tmsgByte (port : RefPort) (b : Byte) : Statement (.tmsgByte port b) := always rfl (fun _ h => nomatch h)

theorem returnLinkByte (b : Byte) : Statement (.returnLinkByte b) := always rfl (fun _ h => nomatch h)

end Sys2Proof.Laws.WellFormed
end

