-- ==== Sys2Proof/Laws/Sparse.lean ====
section
/-! SUPPORT. Values kept by number: what a read gives after a write or a change of every value, and that writes keep the
canonical form, for the Payload Store and the Stream Table. -/

namespace Sys2Proof.Machine

variable {α : Type} {d : α}

theorem sparseGet_none {i : Nat} {m : List (Nat × α)} (h : ∀ e ∈ m, i < e.1) : sparseGet d i m = d := by
  induction m with
  | nil => rfl
  | cons e r ih =>
    have he := h e (by simp)
    simp [sparseGet, Nat.ne_of_gt he, ih (fun x hx => h x (by simp [hx]))]

variable [DecidableEq α]

theorem sparseWf_cons {k : Nat} {v : α} {r : List (Nat × α)} :
    sparseWf d ((k, v) :: r) = true ↔ v ≠ d ∧ (∀ e ∈ r, k < e.1) ∧ sparseWf d r = true := by
  simp [sparseWf, and_assoc]

/-- The numbers listed after a write are those before and the one written. -/
theorem mem_sparseSet {i : Nat} {v : α} {m : List (Nat × α)} {e : Nat × α} (h : e ∈ sparseSet d i v m) :
    e ∈ m ∨ e = (i, v) := by
  induction m with
  | nil =>
    unfold sparseSet at h
    split at h
    · simp at h
    · simp_all
  | cons x r ih =>
    obtain ⟨k, w⟩ := x
    unfold sparseSet at h
    split at h
    · rcases List.mem_cons.1 h with h | h
      · simp [h]
      · rcases ih h with h | h <;> simp [h]
    · split at h
      · split at h
        · simp [h]
        · rcases List.mem_cons.1 h with h | h <;> simp [h]
      · split at h
        · simp_all
        · rcases List.mem_cons.1 h with h | h <;> simp_all

theorem sparseGet_set_other {i j : Nat} {v : α} {m : List (Nat × α)} (h : i ≠ j) :
    sparseGet d j (sparseSet d i v m) = sparseGet d j m := by
  induction m with
  | nil =>
    unfold sparseSet
    split <;> simp [sparseGet, h]
  | cons x r ih =>
    obtain ⟨k, w⟩ := x
    unfold sparseSet
    split
    · simp [sparseGet, ih]
    · split
      · rename_i hk
        subst hk
        split <;> simp [sparseGet, h]
      · split <;> simp [sparseGet, h]

theorem sparseGet_set_same {i : Nat} {v : α} {m : List (Nat × α)} (h : v ≠ d ∨ sparseWf d m = true) :
    sparseGet d i (sparseSet d i v m) = v := by
  induction m with
  | nil =>
    unfold sparseSet
    split <;> simp_all [sparseGet]
  | cons x r ih =>
    obtain ⟨k, w⟩ := x
    have hr : v ≠ d ∨ sparseWf d r = true := h.imp id (fun h => (sparseWf_cons.1 h).2.2)
    unfold sparseSet
    split
    · rename_i hk
      simp [sparseGet, Nat.ne_of_lt hk, ih hr]
    · rename_i hk
      split
      · rename_i he
        split
        · rename_i hv
          rcases h with h | h
          · exact absurd hv h
          · rw [hv]
            exact sparseGet_none (fun e hx => he ▸ (sparseWf_cons.1 h).2.1 e hx)
        · simp [sparseGet]
      · rename_i he
        split
        · rename_i hv
          rcases h with h | h
          · exact absurd hv h
          · rw [hv]
            refine sparseGet_none (fun e hx => ?_)
            have hlt : i < k := by omega
            rcases List.mem_cons.1 hx with hx | hx
            · subst hx; exact hlt
            · exact Nat.lt_trans hlt ((sparseWf_cons.1 h).2.1 e hx)
        · simp [sparseGet]

/-- In canonical form, writing the value that is kept changes nothing. -/
theorem sparseSet_get_self {i : Nat} {m : List (Nat × α)} (h : sparseWf d m = true) :
    sparseSet d i (sparseGet d i m) m = m := by
  induction m with
  | nil => simp [sparseGet, sparseSet]
  | cons x r ih =>
    obtain ⟨k, w⟩ := x
    obtain ⟨hw, hk, hr⟩ := sparseWf_cons.1 h
    by_cases he : k = i
    · subst he
      simp [sparseGet, sparseSet, hw]
    · by_cases hlt : k < i
      · simp [sparseGet, sparseSet, he, hlt, ih hr]
      · have hd : sparseGet d i r = d := sparseGet_none (fun e hx => by have := hk e hx; omega)
        simp [sparseGet, sparseSet, he, hlt, hd]

/-- A write keeps the canonical form. -/
theorem sparseWf_set {i : Nat} {v : α} {m : List (Nat × α)} (h : sparseWf d m = true) :
    sparseWf d (sparseSet d i v m) = true := by
  induction m with
  | nil =>
    unfold sparseSet
    split <;> simp_all [sparseWf]
  | cons x r ih =>
    obtain ⟨k, w⟩ := x
    obtain ⟨hw, hk, hr⟩ := sparseWf_cons.1 h
    unfold sparseSet
    split
    · rename_i hlt
      refine sparseWf_cons.2 ⟨hw, fun e he => ?_, ih hr⟩
      rcases mem_sparseSet he with he | he
      · exact hk e he
      · subst he; exact hlt
    · rename_i hge
      split
      · rename_i he
        split
        · exact hr
        · rename_i hv
          exact sparseWf_cons.2 ⟨hv, fun e hx => he ▸ hk e hx, hr⟩
      · rename_i hne
        split
        · exact h
        · rename_i hv
          refine sparseWf_cons.2 ⟨hv, fun e he => ?_, h⟩
          have hlt : i < k := by omega
          rcases List.mem_cons.1 he with he | he
          · subst he; exact hlt
          · exact Nat.lt_trans hlt (hk e he)

theorem mem_sparseMap {f : α → α} {m : List (Nat × α)} {e : Nat × α} (h : e ∈ sparseMap d f m) :
    ∃ x ∈ m, x.1 = e.1 ∧ e.2 = f x.2 ∧ e.2 ≠ d := by
  obtain ⟨x, hx, hf⟩ := List.mem_filterMap.1 h
  split at hf
  · exact absurd hf (by simp)
  · obtain rfl := Option.some.inj hf
    exact ⟨x, hx, rfl, rfl, by assumption⟩

/-- A change of every value keeps the canonical form. -/
theorem sparseWf_map {f : α → α} {m : List (Nat × α)} (h : sparseWf d m = true) :
    sparseWf d (sparseMap d f m) = true := by
  induction m with
  | nil => rfl
  | cons x r ih =>
    obtain ⟨k, w⟩ := x
    obtain ⟨hw, hk, hr⟩ := sparseWf_cons.1 h
    unfold sparseMap
    rw [List.filterMap_cons]
    by_cases hf : f w = d
    · simp only [hf, if_pos]
      exact ih hr
    · simp only [hf, if_neg, not_false_eq_true]
      refine sparseWf_cons.2 ⟨hf, fun e he => ?_, ih hr⟩
      obtain ⟨y, hy, hye, _⟩ := mem_sparseMap he
      exact hye ▸ hk y hy

/-- A read after a change of every value that leaves `d` alone. -/
theorem sparseGet_map {f : α → α} {i : Nat} {m : List (Nat × α)} (hd : f d = d) (h : sparseWf d m = true) :
    sparseGet d i (sparseMap d f m) = f (sparseGet d i m) := by
  induction m with
  | nil => simp [sparseMap, sparseGet, hd]
  | cons x r ih =>
    obtain ⟨k, w⟩ := x
    obtain ⟨hw, hk, hr⟩ := sparseWf_cons.1 h
    unfold sparseMap
    rw [List.filterMap_cons]
    by_cases hf : f w = d
    · simp only [hf, if_pos]
      by_cases hki : k = i
      · subst hki
        have : sparseGet d k (sparseMap d f r) = d := sparseGet_none (fun e he => by
          obtain ⟨y, hy, hye, _⟩ := mem_sparseMap he
          exact hye ▸ hk y hy)
        simpa [sparseGet, sparseMap, hf] using this
      · simpa [sparseGet, sparseMap, hki] using ih hr
    · simp only [hf, if_neg, not_false_eq_true]
      by_cases hki : k = i
      · simp [sparseGet, hki]
      · simpa [sparseGet, sparseMap, hki] using ih hr

/-! ### Buffers and slots -/

theorem buffer_setBuffer_same {n : Nat} {b : Buffer} {s : Store} (h : b ≠ Buffer.blank ∨ sparseWf Buffer.blank s.buffers = true) :
    (s.setBuffer n b).buffer n = b := sparseGet_set_same h

theorem buffer_setBuffer_other {n k : Nat} {b : Buffer} {s : Store} (h : n ≠ k) :
    (s.setBuffer n b).buffer k = s.buffer k := sparseGet_set_other h

theorem slot_setSlot_same {i : Nat} {x : Slot} {t : StreamTable} (h : x ≠ Slot.vacant ∨ sparseWf Slot.vacant t.slots = true) :
    (t.setSlot i x).slot i = x := sparseGet_set_same h

theorem slot_setSlot_other {i j : Nat} {x : Slot} {t : StreamTable} (h : i ≠ j) : (t.setSlot i x).slot j = t.slot j :=
  sparseGet_set_other h

theorem onStream_slot_other {i j : Nat} {f : Stream → Stream} {t : StreamTable} (h : i ≠ j) :
    (t.onStream i f).slot j = t.slot j := by
  unfold StreamTable.onStream
  split
  · rfl
  · exact slot_setSlot_other h

theorem onStream_slot_same {i : Nat} {f : Stream → Stream} {t : StreamTable} {st : Stream} (h : (t.slot i).stream = some st) :
    (t.onStream i f).slot i = ⟨some (f st), (t.slot i).mark⟩ := by
  unfold StreamTable.onStream
  rw [h]
  exact slot_setSlot_same (Or.inl (by simp [Slot.vacant]))

/-- A change of a stream that leaves it as it is leaves every slot as it is. -/
theorem onStream_slot_id {i : Nat} {f : Stream → Stream} {t : StreamTable} (hf : ∀ st, f st = st) (j : Nat) :
    (t.onStream i f).slot j = t.slot j := by
  by_cases hij : i = j
  · subst hij
    cases hs : (t.slot i).stream with
    | none => simp [StreamTable.onStream, hs]
    | some st => rw [onStream_slot_same hs, hf, ← hs]
  · exact onStream_slot_other hij

/-- In canonical form, a change of a stream that leaves it as it is leaves the Stream Table as it is. -/
theorem onStream_id {i : Nat} {f : Stream → Stream} {t : StreamTable} (hf : ∀ st, f st = st)
    (h : sparseWf Slot.vacant t.slots = true) : t.onStream i f = t := by
  cases hs : (t.slot i).stream with
  | none => simp [StreamTable.onStream, hs]
  | some st =>
    have hx : Slot.mk (some (f st)) (t.slot i).mark = sparseGet Slot.vacant i t.slots := by
      rw [hf, ← hs]
      rfl
    simp [StreamTable.onStream, hs, StreamTable.setSlot, hx, sparseSet_get_self h]

@[simp] theorem onStream_strangers {i : Nat} {f : Stream → Stream} {t : StreamTable} :
    (t.onStream i f).strangers = t.strangers := by
  unfold StreamTable.onStream
  split <;> rfl

@[simp] theorem onStream_unlisted {i : Nat} {f : Stream → Stream} {t : StreamTable} :
    (t.onStream i f).unlisted = t.unlisted := by
  unfold StreamTable.onStream
  split <;> rfl

theorem onStream_slots_wf {i : Nat} {f : Stream → Stream} {t : StreamTable} (h : sparseWf Slot.vacant t.slots = true) :
    sparseWf Slot.vacant (t.onStream i f).slots = true := by
  unfold StreamTable.onStream
  split
  · exact h
  · exact sparseWf_set h

theorem pass_state {n : Nat} {st : BufState} {s : Store} (h : st ≠ .free) : ((s.pass n st).buffer n).state = st := by
  unfold Store.pass
  rw [buffer_setBuffer_same (Or.inl (by intro he; apply h; simpa [Buffer.blank] using congrArg Buffer.state he))]

theorem setBuffer_wf {n : Nat} {b : Buffer} {s : Store} (h : sparseWf Buffer.blank s.buffers = true) :
    sparseWf Buffer.blank (s.setBuffer n b).buffers = true := sparseWf_set h

theorem pass_wf {n : Nat} {st : BufState} {s : Store} (h : sparseWf Buffer.blank s.buffers = true) :
    sparseWf Buffer.blank (s.pass n st).buffers = true := sparseWf_set h

theorem passAll_wf {ns : List Nat} {st : BufState} {s : Store} (h : sparseWf Buffer.blank s.buffers = true) :
    sparseWf Buffer.blank (s.passAll ns st).buffers = true := by
  unfold Store.passAll
  induction ns generalizing s with
  | nil => exact h
  | cons n r ih => exact ih (pass_wf h)

theorem giveBack_wf {ns : List Nat} {s : Store} (h : sparseWf Buffer.blank s.buffers = true) :
    sparseWf Buffer.blank (s.giveBack ns).buffers = true := by
  unfold Store.giveBack Store.evalQuiet
  exact passAll_wf h

theorem upset_wf {n k : Nat} {s : Store} (h : sparseWf Buffer.blank s.buffers = true) :
    sparseWf Buffer.blank (s.upset n k).buffers = true := by
  unfold Store.upset
  simp only []
  split
  · exact h
  · exact sparseWf_set h

theorem write_wf {n : Nat} {x : Byte} {s : Store} (h : sparseWf Buffer.blank s.buffers = true) :
    sparseWf Buffer.blank (s.write n x).buffers = true := sparseWf_set h

theorem rebuild_wf {keep : Bool} {s : Store} (h : sparseWf Buffer.blank s.buffers = true) :
    sparseWf Buffer.blank (s.rebuild keep).buffers = true := sparseWf_map h

/-- A reset event's rebuilding, buffer by buffer. -/
theorem rebuild_buffer {keep : Bool} {s : Store} (n : Nat) (h : sparseWf Buffer.blank s.buffers = true) :
    (s.rebuild keep).buffer n = (s.buffer n).freed keep := sparseGet_map (by cases keep <;> rfl) h

theorem freed_true_state (b : Buffer) : (b.freed true).state = if b.state = .retired then .retired else .free := by
  unfold Buffer.freed
  by_cases h : b.state = .retired <;> simp [h]

end Sys2Proof.Machine
end

