-- ==== Sys2Proof/Laws/TimeFrames.lean ====
section
/-! SUPPORT. What the operations of the Reference Ports and the Time Base leave unchanged. -/

namespace Sys2Proof.Machine

@[simp] theorem tmsgByte_clock (r : RefPort) (b : Byte) (p : Part) : (tmsgByte r b p).clock = p.clock := by simp [tmsgByte]
@[simp] theorem tmsgByte_idleSpan (r : RefPort) (b : Byte) (p : Part) : (tmsgByte r b p).idleSpan = p.idleSpan := by simp [tmsgByte]
@[simp] theorem tmsgByte_freeUses (r : RefPort) (b : Byte) (p : Part) : (tmsgByte r b p).freeUses = p.freeUses := by simp [tmsgByte]
@[simp] theorem tmsgByte_pins (r : RefPort) (b : Byte) (p : Part) : (tmsgByte r b p).pins = p.pins := by simp [tmsgByte]
@[simp] theorem tmsgByte_straps (r : RefPort) (b : Byte) (p : Part) : (tmsgByte r b p).straps = p.straps := by simp [tmsgByte]
@[simp] theorem tmsgByte_lastReset (r : RefPort) (b : Byte) (p : Part) : (tmsgByte r b p).lastReset = p.lastReset := by simp [tmsgByte]
@[simp] theorem tmsgByte_filing (r : RefPort) (b : Byte) (p : Part) : (tmsgByte r b p).filing = p.filing := by simp [tmsgByte]
@[simp] theorem tmsgByte_timeBase (r : RefPort) (b : Byte) (p : Part) : (tmsgByte r b p).timeBase = p.timeBase := by simp [tmsgByte]
@[simp] theorem tmsgByte_streams (r : RefPort) (b : Byte) (p : Part) : (tmsgByte r b p).streams = p.streams := by simp [tmsgByte]
@[simp] theorem tmsgByte_engine (r : RefPort) (b : Byte) (p : Part) : (tmsgByte r b p).engine = p.engine := by simp [tmsgByte]
@[simp] theorem tmsgByte_sorter (r : RefPort) (b : Byte) (p : Part) : (tmsgByte r b p).sorter = p.sorter := by simp [tmsgByte]
@[simp] theorem tmsgByte_lanes (r : RefPort) (b : Byte) (p : Part) : (tmsgByte r b p).lanes = p.lanes := by simp [tmsgByte]
@[simp] theorem tmsgByte_store (r : RefPort) (b : Byte) (p : Part) : (tmsgByte r b p).store = p.store := by simp [tmsgByte]
@[simp] theorem tmsgByte_egress (r : RefPort) (b : Byte) (p : Part) : (tmsgByte r b p).egress = p.egress := by simp [tmsgByte]
@[simp] theorem tmsgByte_control (r : RefPort) (b : Byte) (p : Part) : (tmsgByte r b p).control = p.control := by simp [tmsgByte]
@[simp] theorem tmsgByte_attention (r : RefPort) (b : Byte) (p : Part) : (tmsgByte r b p).attention = p.attention := by simp [tmsgByte]

@[simp] theorem tmsgGap_clock (r : RefPort) (p : Part) : (tmsgGap r p).clock = p.clock := by
  unfold tmsgGap
  (repeat' split) <;> simp
@[simp] theorem tmsgGap_idleSpan (r : RefPort) (p : Part) : (tmsgGap r p).idleSpan = p.idleSpan := by
  unfold tmsgGap
  (repeat' split) <;> simp
@[simp] theorem tmsgGap_freeUses (r : RefPort) (p : Part) : (tmsgGap r p).freeUses = p.freeUses := by
  unfold tmsgGap
  (repeat' split) <;> simp
@[simp] theorem tmsgGap_pins (r : RefPort) (p : Part) : (tmsgGap r p).pins = p.pins := by
  unfold tmsgGap
  (repeat' split) <;> simp
@[simp] theorem tmsgGap_straps (r : RefPort) (p : Part) : (tmsgGap r p).straps = p.straps := by
  unfold tmsgGap
  (repeat' split) <;> simp
@[simp] theorem tmsgGap_lastReset (r : RefPort) (p : Part) : (tmsgGap r p).lastReset = p.lastReset := by
  unfold tmsgGap
  (repeat' split) <;> simp
@[simp] theorem tmsgGap_filing (r : RefPort) (p : Part) : (tmsgGap r p).filing = p.filing := by
  unfold tmsgGap
  (repeat' split) <;> simp
@[simp] theorem tmsgGap_timeBase (r : RefPort) (p : Part) : (tmsgGap r p).timeBase = p.timeBase := by
  unfold tmsgGap
  (repeat' split) <;> simp
@[simp] theorem tmsgGap_streams (r : RefPort) (p : Part) : (tmsgGap r p).streams = p.streams := by
  unfold tmsgGap
  (repeat' split) <;> simp
@[simp] theorem tmsgGap_engine (r : RefPort) (p : Part) : (tmsgGap r p).engine = p.engine := by
  unfold tmsgGap
  (repeat' split) <;> simp
@[simp] theorem tmsgGap_sorter (r : RefPort) (p : Part) : (tmsgGap r p).sorter = p.sorter := by
  unfold tmsgGap
  (repeat' split) <;> simp
@[simp] theorem tmsgGap_lanes (r : RefPort) (p : Part) : (tmsgGap r p).lanes = p.lanes := by
  unfold tmsgGap
  (repeat' split) <;> simp
@[simp] theorem tmsgGap_store (r : RefPort) (p : Part) : (tmsgGap r p).store = p.store := by
  unfold tmsgGap
  (repeat' split) <;> simp
@[simp] theorem tmsgGap_egress (r : RefPort) (p : Part) : (tmsgGap r p).egress = p.egress := by
  unfold tmsgGap
  (repeat' split) <;> simp
@[simp] theorem tmsgGap_control (r : RefPort) (p : Part) : (tmsgGap r p).control = p.control := by
  unfold tmsgGap
  (repeat' split) <;> simp
@[simp] theorem tmsgGap_attention (r : RefPort) (p : Part) : (tmsgGap r p).attention = p.attention := by
  unfold tmsgGap
  (repeat' split) <;> simp

@[simp] theorem setTimeDelta_clock (f : TimeDeltas → TimeDeltas) (p : Part) : (setTimeDelta f p).clock = p.clock := by simp [setTimeDelta]
@[simp] theorem setTimeDelta_idleSpan (f : TimeDeltas → TimeDeltas) (p : Part) : (setTimeDelta f p).idleSpan = p.idleSpan := by simp [setTimeDelta]
@[simp] theorem setTimeDelta_freeUses (f : TimeDeltas → TimeDeltas) (p : Part) : (setTimeDelta f p).freeUses = p.freeUses := by simp [setTimeDelta]
@[simp] theorem setTimeDelta_pins (f : TimeDeltas → TimeDeltas) (p : Part) : (setTimeDelta f p).pins = p.pins := by simp [setTimeDelta]
@[simp] theorem setTimeDelta_straps (f : TimeDeltas → TimeDeltas) (p : Part) : (setTimeDelta f p).straps = p.straps := by simp [setTimeDelta]
@[simp] theorem setTimeDelta_lastReset (f : TimeDeltas → TimeDeltas) (p : Part) : (setTimeDelta f p).lastReset = p.lastReset := by simp [setTimeDelta]
@[simp] theorem setTimeDelta_filing (f : TimeDeltas → TimeDeltas) (p : Part) : (setTimeDelta f p).filing = p.filing := by simp [setTimeDelta]
@[simp] theorem setTimeDelta_portA (f : TimeDeltas → TimeDeltas) (p : Part) : (setTimeDelta f p).portA = p.portA := by simp [setTimeDelta]
@[simp] theorem setTimeDelta_portB (f : TimeDeltas → TimeDeltas) (p : Part) : (setTimeDelta f p).portB = p.portB := by simp [setTimeDelta]
@[simp] theorem setTimeDelta_streams (f : TimeDeltas → TimeDeltas) (p : Part) : (setTimeDelta f p).streams = p.streams := by simp [setTimeDelta]
@[simp] theorem setTimeDelta_engine (f : TimeDeltas → TimeDeltas) (p : Part) : (setTimeDelta f p).engine = p.engine := by simp [setTimeDelta]
@[simp] theorem setTimeDelta_sorter (f : TimeDeltas → TimeDeltas) (p : Part) : (setTimeDelta f p).sorter = p.sorter := by simp [setTimeDelta]
@[simp] theorem setTimeDelta_lanes (f : TimeDeltas → TimeDeltas) (p : Part) : (setTimeDelta f p).lanes = p.lanes := by simp [setTimeDelta]
@[simp] theorem setTimeDelta_store (f : TimeDeltas → TimeDeltas) (p : Part) : (setTimeDelta f p).store = p.store := by simp [setTimeDelta]
@[simp] theorem setTimeDelta_egress (f : TimeDeltas → TimeDeltas) (p : Part) : (setTimeDelta f p).egress = p.egress := by simp [setTimeDelta]

@[simp] theorem portChanged_clock (r : RefPort) (p : Part) : (portChanged r p).clock = p.clock := by cases r <;> simp [portChanged]
@[simp] theorem portChanged_idleSpan (r : RefPort) (p : Part) : (portChanged r p).idleSpan = p.idleSpan := by cases r <;> simp [portChanged]
@[simp] theorem portChanged_freeUses (r : RefPort) (p : Part) : (portChanged r p).freeUses = p.freeUses := by cases r <;> simp [portChanged]
@[simp] theorem portChanged_pins (r : RefPort) (p : Part) : (portChanged r p).pins = p.pins := by cases r <;> simp [portChanged]
@[simp] theorem portChanged_straps (r : RefPort) (p : Part) : (portChanged r p).straps = p.straps := by cases r <;> simp [portChanged]
@[simp] theorem portChanged_lastReset (r : RefPort) (p : Part) : (portChanged r p).lastReset = p.lastReset := by cases r <;> simp [portChanged]
@[simp] theorem portChanged_filing (r : RefPort) (p : Part) : (portChanged r p).filing = p.filing := by cases r <;> simp [portChanged]
@[simp] theorem portChanged_portA (r : RefPort) (p : Part) : (portChanged r p).portA = p.portA := by cases r <;> simp [portChanged]
@[simp] theorem portChanged_portB (r : RefPort) (p : Part) : (portChanged r p).portB = p.portB := by cases r <;> simp [portChanged]
@[simp] theorem portChanged_streams (r : RefPort) (p : Part) : (portChanged r p).streams = p.streams := by cases r <;> simp [portChanged]
@[simp] theorem portChanged_engine (r : RefPort) (p : Part) : (portChanged r p).engine = p.engine := by cases r <;> simp [portChanged]
@[simp] theorem portChanged_sorter (r : RefPort) (p : Part) : (portChanged r p).sorter = p.sorter := by cases r <;> simp [portChanged]
@[simp] theorem portChanged_lanes (r : RefPort) (p : Part) : (portChanged r p).lanes = p.lanes := by cases r <;> simp [portChanged]
@[simp] theorem portChanged_store (r : RefPort) (p : Part) : (portChanged r p).store = p.store := by cases r <;> simp [portChanged]
@[simp] theorem portChanged_egress (r : RefPort) (p : Part) : (portChanged r p).egress = p.egress := by cases r <;> simp [portChanged]

@[simp] theorem stateChanged_clock (p : Part) : (stateChanged p).clock = p.clock := by simp [stateChanged]
@[simp] theorem stateChanged_idleSpan (p : Part) : (stateChanged p).idleSpan = p.idleSpan := by simp [stateChanged]
@[simp] theorem stateChanged_freeUses (p : Part) : (stateChanged p).freeUses = p.freeUses := by simp [stateChanged]
@[simp] theorem stateChanged_pins (p : Part) : (stateChanged p).pins = p.pins := by simp [stateChanged]
@[simp] theorem stateChanged_straps (p : Part) : (stateChanged p).straps = p.straps := by simp [stateChanged]
@[simp] theorem stateChanged_lastReset (p : Part) : (stateChanged p).lastReset = p.lastReset := by simp [stateChanged]
@[simp] theorem stateChanged_filing (p : Part) : (stateChanged p).filing = p.filing := by simp [stateChanged]
@[simp] theorem stateChanged_portA (p : Part) : (stateChanged p).portA = p.portA := by simp [stateChanged]
@[simp] theorem stateChanged_portB (p : Part) : (stateChanged p).portB = p.portB := by simp [stateChanged]
@[simp] theorem stateChanged_streams (p : Part) : (stateChanged p).streams = p.streams := by simp [stateChanged]
@[simp] theorem stateChanged_engine (p : Part) : (stateChanged p).engine = p.engine := by simp [stateChanged]
@[simp] theorem stateChanged_sorter (p : Part) : (stateChanged p).sorter = p.sorter := by simp [stateChanged]
@[simp] theorem stateChanged_lanes (p : Part) : (stateChanged p).lanes = p.lanes := by simp [stateChanged]
@[simp] theorem stateChanged_store (p : Part) : (stateChanged p).store = p.store := by simp [stateChanged]
@[simp] theorem stateChanged_egress (p : Part) : (stateChanged p).egress = p.egress := by simp [stateChanged]

@[simp] theorem jumpTo_clock (n : Nat) (p : Part) : (jumpTo n p).clock = p.clock := by simp [jumpTo]
@[simp] theorem jumpTo_idleSpan (n : Nat) (p : Part) : (jumpTo n p).idleSpan = p.idleSpan := by simp [jumpTo]
@[simp] theorem jumpTo_freeUses (n : Nat) (p : Part) : (jumpTo n p).freeUses = p.freeUses := by simp [jumpTo]
@[simp] theorem jumpTo_pins (n : Nat) (p : Part) : (jumpTo n p).pins = p.pins := by simp [jumpTo]
@[simp] theorem jumpTo_straps (n : Nat) (p : Part) : (jumpTo n p).straps = p.straps := by simp [jumpTo]
@[simp] theorem jumpTo_lastReset (n : Nat) (p : Part) : (jumpTo n p).lastReset = p.lastReset := by simp [jumpTo]
@[simp] theorem jumpTo_filing (n : Nat) (p : Part) : (jumpTo n p).filing = p.filing := by simp [jumpTo]
@[simp] theorem jumpTo_portA (n : Nat) (p : Part) : (jumpTo n p).portA = p.portA := by simp [jumpTo]
@[simp] theorem jumpTo_portB (n : Nat) (p : Part) : (jumpTo n p).portB = p.portB := by simp [jumpTo]
@[simp] theorem jumpTo_streams (n : Nat) (p : Part) : (jumpTo n p).streams = p.streams := by simp [jumpTo]
@[simp] theorem jumpTo_engine (n : Nat) (p : Part) : (jumpTo n p).engine = p.engine := by simp [jumpTo]
@[simp] theorem jumpTo_sorter (n : Nat) (p : Part) : (jumpTo n p).sorter = p.sorter := by simp [jumpTo]
@[simp] theorem jumpTo_lanes (n : Nat) (p : Part) : (jumpTo n p).lanes = p.lanes := by simp [jumpTo]
@[simp] theorem jumpTo_store (n : Nat) (p : Part) : (jumpTo n p).store = p.store := by simp [jumpTo]
@[simp] theorem jumpTo_egress (n : Nat) (p : Part) : (jumpTo n p).egress = p.egress := by simp [jumpTo]

@[simp] theorem stepTo_clock (old : PartTime) (n : Nat) (p : Part) : (stepTo old n p).clock = p.clock := by
  unfold stepTo
  (repeat' split) <;> simp
@[simp] theorem stepTo_idleSpan (old : PartTime) (n : Nat) (p : Part) : (stepTo old n p).idleSpan = p.idleSpan := by
  unfold stepTo
  (repeat' split) <;> simp
@[simp] theorem stepTo_pins (old : PartTime) (n : Nat) (p : Part) : (stepTo old n p).pins = p.pins := by
  unfold stepTo
  (repeat' split) <;> simp
@[simp] theorem stepTo_straps (old : PartTime) (n : Nat) (p : Part) : (stepTo old n p).straps = p.straps := by
  unfold stepTo
  (repeat' split) <;> simp
@[simp] theorem stepTo_lastReset (old : PartTime) (n : Nat) (p : Part) : (stepTo old n p).lastReset = p.lastReset := by
  unfold stepTo
  (repeat' split) <;> simp
@[simp] theorem stepTo_filing (old : PartTime) (n : Nat) (p : Part) : (stepTo old n p).filing = p.filing := by
  unfold stepTo
  (repeat' split) <;> simp
@[simp] theorem stepTo_portA (old : PartTime) (n : Nat) (p : Part) : (stepTo old n p).portA = p.portA := by
  unfold stepTo
  (repeat' split) <;> simp
@[simp] theorem stepTo_portB (old : PartTime) (n : Nat) (p : Part) : (stepTo old n p).portB = p.portB := by
  unfold stepTo
  (repeat' split) <;> simp
@[simp] theorem stepTo_sorter (old : PartTime) (n : Nat) (p : Part) : (stepTo old n p).sorter = p.sorter := by
  unfold stepTo
  (repeat' split) <;> simp
@[simp] theorem stepTo_lanes (old : PartTime) (n : Nat) (p : Part) : (stepTo old n p).lanes = p.lanes := by
  unfold stepTo
  (repeat' split) <;> simp

@[simp] theorem takeOffset_clock (t : PartTime) (n : Nat) (o : Int) (p : Part) : (takeOffset t n o p).clock = p.clock := by
  unfold takeOffset
  dsimp only
  (repeat' split) <;> simp
@[simp] theorem takeOffset_idleSpan (t : PartTime) (n : Nat) (o : Int) (p : Part) : (takeOffset t n o p).idleSpan = p.idleSpan := by
  unfold takeOffset
  dsimp only
  (repeat' split) <;> simp
@[simp] theorem takeOffset_pins (t : PartTime) (n : Nat) (o : Int) (p : Part) : (takeOffset t n o p).pins = p.pins := by
  unfold takeOffset
  dsimp only
  (repeat' split) <;> simp
@[simp] theorem takeOffset_straps (t : PartTime) (n : Nat) (o : Int) (p : Part) : (takeOffset t n o p).straps = p.straps := by
  unfold takeOffset
  dsimp only
  (repeat' split) <;> simp
@[simp] theorem takeOffset_lastReset (t : PartTime) (n : Nat) (o : Int) (p : Part) : (takeOffset t n o p).lastReset = p.lastReset := by
  unfold takeOffset
  dsimp only
  (repeat' split) <;> simp
@[simp] theorem takeOffset_filing (t : PartTime) (n : Nat) (o : Int) (p : Part) : (takeOffset t n o p).filing = p.filing := by
  unfold takeOffset
  dsimp only
  (repeat' split) <;> simp
@[simp] theorem takeOffset_portA (t : PartTime) (n : Nat) (o : Int) (p : Part) : (takeOffset t n o p).portA = p.portA := by
  unfold takeOffset
  dsimp only
  (repeat' split) <;> simp
@[simp] theorem takeOffset_portB (t : PartTime) (n : Nat) (o : Int) (p : Part) : (takeOffset t n o p).portB = p.portB := by
  unfold takeOffset
  dsimp only
  (repeat' split) <;> simp
@[simp] theorem takeOffset_sorter (t : PartTime) (n : Nat) (o : Int) (p : Part) : (takeOffset t n o p).sorter = p.sorter := by
  unfold takeOffset
  dsimp only
  (repeat' split) <;> simp
@[simp] theorem takeOffset_lanes (t : PartTime) (n : Nat) (o : Int) (p : Part) : (takeOffset t n o p).lanes = p.lanes := by
  unfold takeOffset
  dsimp only
  (repeat' split) <;> simp

@[simp] theorem measure_clock (r : RefPort) (p : Part) : (measure r p).clock = p.clock := by
  unfold measure
  (repeat' split) <;> simp
@[simp] theorem measure_idleSpan (r : RefPort) (p : Part) : (measure r p).idleSpan = p.idleSpan := by
  unfold measure
  (repeat' split) <;> simp
@[simp] theorem measure_pins (r : RefPort) (p : Part) : (measure r p).pins = p.pins := by
  unfold measure
  (repeat' split) <;> simp
@[simp] theorem measure_straps (r : RefPort) (p : Part) : (measure r p).straps = p.straps := by
  unfold measure
  (repeat' split) <;> simp
@[simp] theorem measure_lastReset (r : RefPort) (p : Part) : (measure r p).lastReset = p.lastReset := by
  unfold measure
  (repeat' split) <;> simp
@[simp] theorem measure_filing (r : RefPort) (p : Part) : (measure r p).filing = p.filing := by
  unfold measure
  (repeat' split) <;> simp
@[simp] theorem measure_portA (r : RefPort) (p : Part) : (measure r p).portA = p.portA := by
  unfold measure
  (repeat' split) <;> simp
@[simp] theorem measure_portB (r : RefPort) (p : Part) : (measure r p).portB = p.portB := by
  unfold measure
  (repeat' split) <;> simp
@[simp] theorem measure_sorter (r : RefPort) (p : Part) : (measure r p).sorter = p.sorter := by
  unfold measure
  (repeat' split) <;> simp
@[simp] theorem measure_lanes (r : RefPort) (p : Part) : (measure r p).lanes = p.lanes := by
  unfold measure
  (repeat' split) <;> simp

@[simp] theorem leaveUnset_clock (r : RefPort) (p : Part) : (leaveUnset r p).clock = p.clock := by
  unfold leaveUnset
  (repeat' split) <;> simp
@[simp] theorem leaveUnset_idleSpan (r : RefPort) (p : Part) : (leaveUnset r p).idleSpan = p.idleSpan := by
  unfold leaveUnset
  (repeat' split) <;> simp
@[simp] theorem leaveUnset_freeUses (r : RefPort) (p : Part) : (leaveUnset r p).freeUses = p.freeUses := by
  unfold leaveUnset
  (repeat' split) <;> simp
@[simp] theorem leaveUnset_pins (r : RefPort) (p : Part) : (leaveUnset r p).pins = p.pins := by
  unfold leaveUnset
  (repeat' split) <;> simp
@[simp] theorem leaveUnset_straps (r : RefPort) (p : Part) : (leaveUnset r p).straps = p.straps := by
  unfold leaveUnset
  (repeat' split) <;> simp
@[simp] theorem leaveUnset_lastReset (r : RefPort) (p : Part) : (leaveUnset r p).lastReset = p.lastReset := by
  unfold leaveUnset
  (repeat' split) <;> simp
@[simp] theorem leaveUnset_filing (r : RefPort) (p : Part) : (leaveUnset r p).filing = p.filing := by
  unfold leaveUnset
  (repeat' split) <;> simp
@[simp] theorem leaveUnset_portA (r : RefPort) (p : Part) : (leaveUnset r p).portA = p.portA := by
  unfold leaveUnset
  (repeat' split) <;> simp
@[simp] theorem leaveUnset_portB (r : RefPort) (p : Part) : (leaveUnset r p).portB = p.portB := by
  unfold leaveUnset
  (repeat' split) <;> simp
@[simp] theorem leaveUnset_streams (r : RefPort) (p : Part) : (leaveUnset r p).streams = p.streams := by
  unfold leaveUnset
  (repeat' split) <;> simp
@[simp] theorem leaveUnset_sorter (r : RefPort) (p : Part) : (leaveUnset r p).sorter = p.sorter := by
  unfold leaveUnset
  (repeat' split) <;> simp
@[simp] theorem leaveUnset_lanes (r : RefPort) (p : Part) : (leaveUnset r p).lanes = p.lanes := by
  unfold leaveUnset
  (repeat' split) <;> simp
@[simp] theorem leaveUnset_store (r : RefPort) (p : Part) : (leaveUnset r p).store = p.store := by
  unfold leaveUnset
  (repeat' split) <;> simp
@[simp] theorem leaveUnset_egress (r : RefPort) (p : Part) : (leaveUnset r p).egress = p.egress := by
  unfold leaveUnset
  (repeat' split) <;> simp

@[simp] theorem relock_clock (r : RefPort) (p : Part) : (relock r p).clock = p.clock := by simp [relock]
@[simp] theorem relock_idleSpan (r : RefPort) (p : Part) : (relock r p).idleSpan = p.idleSpan := by simp [relock]
@[simp] theorem relock_pins (r : RefPort) (p : Part) : (relock r p).pins = p.pins := by simp [relock]
@[simp] theorem relock_straps (r : RefPort) (p : Part) : (relock r p).straps = p.straps := by simp [relock]
@[simp] theorem relock_lastReset (r : RefPort) (p : Part) : (relock r p).lastReset = p.lastReset := by simp [relock]
@[simp] theorem relock_filing (r : RefPort) (p : Part) : (relock r p).filing = p.filing := by simp [relock]
@[simp] theorem relock_portA (r : RefPort) (p : Part) : (relock r p).portA = p.portA := by simp [relock]
@[simp] theorem relock_portB (r : RefPort) (p : Part) : (relock r p).portB = p.portB := by simp [relock]
@[simp] theorem relock_sorter (r : RefPort) (p : Part) : (relock r p).sorter = p.sorter := by simp [relock]
@[simp] theorem relock_lanes (r : RefPort) (p : Part) : (relock r p).lanes = p.lanes := by simp [relock]

@[simp] theorem enterHoldover_clock (p : Part) : (enterHoldover p).clock = p.clock := by simp [enterHoldover]
@[simp] theorem enterHoldover_idleSpan (p : Part) : (enterHoldover p).idleSpan = p.idleSpan := by simp [enterHoldover]
@[simp] theorem enterHoldover_freeUses (p : Part) : (enterHoldover p).freeUses = p.freeUses := by simp [enterHoldover]
@[simp] theorem enterHoldover_pins (p : Part) : (enterHoldover p).pins = p.pins := by simp [enterHoldover]
@[simp] theorem enterHoldover_straps (p : Part) : (enterHoldover p).straps = p.straps := by simp [enterHoldover]
@[simp] theorem enterHoldover_lastReset (p : Part) : (enterHoldover p).lastReset = p.lastReset := by simp [enterHoldover]
@[simp] theorem enterHoldover_filing (p : Part) : (enterHoldover p).filing = p.filing := by simp [enterHoldover]
@[simp] theorem enterHoldover_portA (p : Part) : (enterHoldover p).portA = p.portA := by simp [enterHoldover]
@[simp] theorem enterHoldover_portB (p : Part) : (enterHoldover p).portB = p.portB := by simp [enterHoldover]
@[simp] theorem enterHoldover_streams (p : Part) : (enterHoldover p).streams = p.streams := by simp [enterHoldover]
@[simp] theorem enterHoldover_engine (p : Part) : (enterHoldover p).engine = p.engine := by simp [enterHoldover]
@[simp] theorem enterHoldover_sorter (p : Part) : (enterHoldover p).sorter = p.sorter := by simp [enterHoldover]
@[simp] theorem enterHoldover_lanes (p : Part) : (enterHoldover p).lanes = p.lanes := by simp [enterHoldover]
@[simp] theorem enterHoldover_store (p : Part) : (enterHoldover p).store = p.store := by simp [enterHoldover]
@[simp] theorem enterHoldover_egress (p : Part) : (enterHoldover p).egress = p.egress := by simp [enterHoldover]

@[simp] theorem switchTo_clock (r : RefPort) (p : Part) : (switchTo r p).clock = p.clock := by simp [switchTo]
@[simp] theorem switchTo_idleSpan (r : RefPort) (p : Part) : (switchTo r p).idleSpan = p.idleSpan := by simp [switchTo]
@[simp] theorem switchTo_pins (r : RefPort) (p : Part) : (switchTo r p).pins = p.pins := by simp [switchTo]
@[simp] theorem switchTo_straps (r : RefPort) (p : Part) : (switchTo r p).straps = p.straps := by simp [switchTo]
@[simp] theorem switchTo_lastReset (r : RefPort) (p : Part) : (switchTo r p).lastReset = p.lastReset := by simp [switchTo]
@[simp] theorem switchTo_filing (r : RefPort) (p : Part) : (switchTo r p).filing = p.filing := by simp [switchTo]
@[simp] theorem switchTo_portA (r : RefPort) (p : Part) : (switchTo r p).portA = p.portA := by simp [switchTo]
@[simp] theorem switchTo_portB (r : RefPort) (p : Part) : (switchTo r p).portB = p.portB := by simp [switchTo]
@[simp] theorem switchTo_sorter (r : RefPort) (p : Part) : (switchTo r p).sorter = p.sorter := by simp [switchTo]
@[simp] theorem switchTo_lanes (r : RefPort) (p : Part) : (switchTo r p).lanes = p.lanes := by simp [switchTo]

@[simp] theorem lost_clock (r : RefPort) (p : Part) : (lost r p).clock = p.clock := by
  unfold lost
  (repeat' split) <;> simp
@[simp] theorem lost_idleSpan (r : RefPort) (p : Part) : (lost r p).idleSpan = p.idleSpan := by
  unfold lost
  (repeat' split) <;> simp
@[simp] theorem lost_pins (r : RefPort) (p : Part) : (lost r p).pins = p.pins := by
  unfold lost
  (repeat' split) <;> simp
@[simp] theorem lost_straps (r : RefPort) (p : Part) : (lost r p).straps = p.straps := by
  unfold lost
  (repeat' split) <;> simp
@[simp] theorem lost_lastReset (r : RefPort) (p : Part) : (lost r p).lastReset = p.lastReset := by
  unfold lost
  (repeat' split) <;> simp
@[simp] theorem lost_filing (r : RefPort) (p : Part) : (lost r p).filing = p.filing := by
  unfold lost
  (repeat' split) <;> simp
@[simp] theorem lost_portA (r : RefPort) (p : Part) : (lost r p).portA = p.portA := by
  unfold lost
  (repeat' split) <;> simp
@[simp] theorem lost_portB (r : RefPort) (p : Part) : (lost r p).portB = p.portB := by
  unfold lost
  (repeat' split) <;> simp
@[simp] theorem lost_sorter (r : RefPort) (p : Part) : (lost r p).sorter = p.sorter := by
  unfold lost
  (repeat' split) <;> simp
@[simp] theorem lost_lanes (r : RefPort) (p : Part) : (lost r p).lanes = p.lanes := by
  unfold lost
  (repeat' split) <;> simp

@[simp] theorem gained_clock (r : RefPort) (p : Part) : (gained r p).clock = p.clock := by
  unfold gained
  (repeat' split) <;> simp
@[simp] theorem gained_idleSpan (r : RefPort) (p : Part) : (gained r p).idleSpan = p.idleSpan := by
  unfold gained
  (repeat' split) <;> simp
@[simp] theorem gained_pins (r : RefPort) (p : Part) : (gained r p).pins = p.pins := by
  unfold gained
  (repeat' split) <;> simp
@[simp] theorem gained_straps (r : RefPort) (p : Part) : (gained r p).straps = p.straps := by
  unfold gained
  (repeat' split) <;> simp
@[simp] theorem gained_lastReset (r : RefPort) (p : Part) : (gained r p).lastReset = p.lastReset := by
  unfold gained
  (repeat' split) <;> simp
@[simp] theorem gained_filing (r : RefPort) (p : Part) : (gained r p).filing = p.filing := by
  unfold gained
  (repeat' split) <;> simp
@[simp] theorem gained_portA (r : RefPort) (p : Part) : (gained r p).portA = p.portA := by
  unfold gained
  (repeat' split) <;> simp
@[simp] theorem gained_portB (r : RefPort) (p : Part) : (gained r p).portB = p.portB := by
  unfold gained
  (repeat' split) <;> simp
@[simp] theorem gained_sorter (r : RefPort) (p : Part) : (gained r p).sorter = p.sorter := by
  unfold gained
  (repeat' split) <;> simp
@[simp] theorem gained_lanes (r : RefPort) (p : Part) : (gained r p).lanes = p.lanes := by
  unfold gained
  (repeat' split) <;> simp

@[simp] theorem departed_clock (r : RefPort) (w : PortState) (p : Part) : (departed r w p).clock = p.clock := by
  unfold departed
  (repeat' split) <;> simp
@[simp] theorem departed_idleSpan (r : RefPort) (w : PortState) (p : Part) : (departed r w p).idleSpan = p.idleSpan := by
  unfold departed
  (repeat' split) <;> simp
@[simp] theorem departed_pins (r : RefPort) (w : PortState) (p : Part) : (departed r w p).pins = p.pins := by
  unfold departed
  (repeat' split) <;> simp
@[simp] theorem departed_straps (r : RefPort) (w : PortState) (p : Part) : (departed r w p).straps = p.straps := by
  unfold departed
  (repeat' split) <;> simp
@[simp] theorem departed_lastReset (r : RefPort) (w : PortState) (p : Part) : (departed r w p).lastReset = p.lastReset := by
  unfold departed
  (repeat' split) <;> simp
@[simp] theorem departed_filing (r : RefPort) (w : PortState) (p : Part) : (departed r w p).filing = p.filing := by
  unfold departed
  (repeat' split) <;> simp
@[simp] theorem departed_portA (r : RefPort) (w : PortState) (p : Part) : (departed r w p).portA = p.portA := by
  unfold departed
  (repeat' split) <;> simp
@[simp] theorem departed_portB (r : RefPort) (w : PortState) (p : Part) : (departed r w p).portB = p.portB := by
  unfold departed
  (repeat' split) <;> simp
@[simp] theorem departed_sorter (r : RefPort) (w : PortState) (p : Part) : (departed r w p).sorter = p.sorter := by
  unfold departed
  (repeat' split) <;> simp
@[simp] theorem departed_lanes (r : RefPort) (w : PortState) (p : Part) : (departed r w p).lanes = p.lanes := by
  unfold departed
  (repeat' split) <;> simp

@[simp] theorem pulse_clock (r : RefPort) (p : Part) : (pulse r p).clock = p.clock := by
  unfold pulse
  dsimp only
  (repeat' split) <;> simp
@[simp] theorem pulse_idleSpan (r : RefPort) (p : Part) : (pulse r p).idleSpan = p.idleSpan := by
  unfold pulse
  dsimp only
  (repeat' split) <;> simp
@[simp] theorem pulse_pins (r : RefPort) (p : Part) : (pulse r p).pins = p.pins := by
  unfold pulse
  dsimp only
  (repeat' split) <;> simp
@[simp] theorem pulse_straps (r : RefPort) (p : Part) : (pulse r p).straps = p.straps := by
  unfold pulse
  dsimp only
  (repeat' split) <;> simp
@[simp] theorem pulse_lastReset (r : RefPort) (p : Part) : (pulse r p).lastReset = p.lastReset := by
  unfold pulse
  dsimp only
  (repeat' split) <;> simp
@[simp] theorem pulse_filing (r : RefPort) (p : Part) : (pulse r p).filing = p.filing := by
  unfold pulse
  dsimp only
  (repeat' split) <;> simp
@[simp] theorem pulse_sorter (r : RefPort) (p : Part) : (pulse r p).sorter = p.sorter := by
  unfold pulse
  dsimp only
  (repeat' split) <;> simp
@[simp] theorem pulse_lanes (r : RefPort) (p : Part) : (pulse r p).lanes = p.lanes := by
  unfold pulse
  dsimp only
  (repeat' split) <;> simp

@[simp] theorem missingPulse_clock (r : RefPort) (p : Part) : (missingPulse r p).clock = p.clock := by
  unfold missingPulse
  (repeat' split) <;> simp
@[simp] theorem missingPulse_idleSpan (r : RefPort) (p : Part) : (missingPulse r p).idleSpan = p.idleSpan := by
  unfold missingPulse
  (repeat' split) <;> simp
@[simp] theorem missingPulse_pins (r : RefPort) (p : Part) : (missingPulse r p).pins = p.pins := by
  unfold missingPulse
  (repeat' split) <;> simp
@[simp] theorem missingPulse_straps (r : RefPort) (p : Part) : (missingPulse r p).straps = p.straps := by
  unfold missingPulse
  (repeat' split) <;> simp
@[simp] theorem missingPulse_lastReset (r : RefPort) (p : Part) : (missingPulse r p).lastReset = p.lastReset := by
  unfold missingPulse
  (repeat' split) <;> simp
@[simp] theorem missingPulse_filing (r : RefPort) (p : Part) : (missingPulse r p).filing = p.filing := by
  unfold missingPulse
  (repeat' split) <;> simp
@[simp] theorem missingPulse_sorter (r : RefPort) (p : Part) : (missingPulse r p).sorter = p.sorter := by
  unfold missingPulse
  (repeat' split) <;> simp
@[simp] theorem missingPulse_lanes (r : RefPort) (p : Part) : (missingPulse r p).lanes = p.lanes := by
  unfold missingPulse
  (repeat' split) <;> simp

@[simp] theorem silence_clock (r : RefPort) (p : Part) : (silence r p).clock = p.clock := by
  unfold silence
  dsimp only
  (repeat' split) <;> simp
@[simp] theorem silence_idleSpan (r : RefPort) (p : Part) : (silence r p).idleSpan = p.idleSpan := by
  unfold silence
  dsimp only
  (repeat' split) <;> simp
@[simp] theorem silence_pins (r : RefPort) (p : Part) : (silence r p).pins = p.pins := by
  unfold silence
  dsimp only
  (repeat' split) <;> simp
@[simp] theorem silence_straps (r : RefPort) (p : Part) : (silence r p).straps = p.straps := by
  unfold silence
  dsimp only
  (repeat' split) <;> simp
@[simp] theorem silence_lastReset (r : RefPort) (p : Part) : (silence r p).lastReset = p.lastReset := by
  unfold silence
  dsimp only
  (repeat' split) <;> simp
@[simp] theorem silence_filing (r : RefPort) (p : Part) : (silence r p).filing = p.filing := by
  unfold silence
  dsimp only
  (repeat' split) <;> simp
@[simp] theorem silence_sorter (r : RefPort) (p : Part) : (silence r p).sorter = p.sorter := by
  unfold silence
  dsimp only
  (repeat' split) <;> simp
@[simp] theorem silence_lanes (r : RefPort) (p : Part) : (silence r p).lanes = p.lanes := by
  unfold silence
  dsimp only
  (repeat' split) <;> simp

@[simp] theorem checkLimit_clock (p : Part) : (checkLimit p).clock = p.clock := by
  unfold checkLimit
  (repeat' split) <;> simp
@[simp] theorem checkLimit_idleSpan (p : Part) : (checkLimit p).idleSpan = p.idleSpan := by
  unfold checkLimit
  (repeat' split) <;> simp
@[simp] theorem checkLimit_freeUses (p : Part) : (checkLimit p).freeUses = p.freeUses := by
  unfold checkLimit
  (repeat' split) <;> simp
@[simp] theorem checkLimit_pins (p : Part) : (checkLimit p).pins = p.pins := by
  unfold checkLimit
  (repeat' split) <;> simp
@[simp] theorem checkLimit_straps (p : Part) : (checkLimit p).straps = p.straps := by
  unfold checkLimit
  (repeat' split) <;> simp
@[simp] theorem checkLimit_lastReset (p : Part) : (checkLimit p).lastReset = p.lastReset := by
  unfold checkLimit
  (repeat' split) <;> simp
@[simp] theorem checkLimit_filing (p : Part) : (checkLimit p).filing = p.filing := by
  unfold checkLimit
  (repeat' split) <;> simp
@[simp] theorem checkLimit_portA (p : Part) : (checkLimit p).portA = p.portA := by
  unfold checkLimit
  (repeat' split) <;> simp
@[simp] theorem checkLimit_portB (p : Part) : (checkLimit p).portB = p.portB := by
  unfold checkLimit
  (repeat' split) <;> simp
@[simp] theorem checkLimit_streams (p : Part) : (checkLimit p).streams = p.streams := by
  unfold checkLimit
  (repeat' split) <;> simp
@[simp] theorem checkLimit_engine (p : Part) : (checkLimit p).engine = p.engine := by
  unfold checkLimit
  (repeat' split) <;> simp
@[simp] theorem checkLimit_sorter (p : Part) : (checkLimit p).sorter = p.sorter := by
  unfold checkLimit
  (repeat' split) <;> simp
@[simp] theorem checkLimit_lanes (p : Part) : (checkLimit p).lanes = p.lanes := by
  unfold checkLimit
  (repeat' split) <;> simp
@[simp] theorem checkLimit_store (p : Part) : (checkLimit p).store = p.store := by
  unfold checkLimit
  (repeat' split) <;> simp
@[simp] theorem checkLimit_egress (p : Part) : (checkLimit p).egress = p.egress := by
  unfold checkLimit
  (repeat' split) <;> simp

@[simp] theorem holdoverSecond_clock (p : Part) : (holdoverSecond p).clock = p.clock := by
  unfold holdoverSecond
  (repeat' split) <;> simp
@[simp] theorem holdoverSecond_idleSpan (p : Part) : (holdoverSecond p).idleSpan = p.idleSpan := by
  unfold holdoverSecond
  (repeat' split) <;> simp
@[simp] theorem holdoverSecond_freeUses (p : Part) : (holdoverSecond p).freeUses = p.freeUses := by
  unfold holdoverSecond
  (repeat' split) <;> simp
@[simp] theorem holdoverSecond_pins (p : Part) : (holdoverSecond p).pins = p.pins := by
  unfold holdoverSecond
  (repeat' split) <;> simp
@[simp] theorem holdoverSecond_straps (p : Part) : (holdoverSecond p).straps = p.straps := by
  unfold holdoverSecond
  (repeat' split) <;> simp
@[simp] theorem holdoverSecond_lastReset (p : Part) : (holdoverSecond p).lastReset = p.lastReset := by
  unfold holdoverSecond
  (repeat' split) <;> simp
@[simp] theorem holdoverSecond_filing (p : Part) : (holdoverSecond p).filing = p.filing := by
  unfold holdoverSecond
  (repeat' split) <;> simp
@[simp] theorem holdoverSecond_portA (p : Part) : (holdoverSecond p).portA = p.portA := by
  unfold holdoverSecond
  (repeat' split) <;> simp
@[simp] theorem holdoverSecond_portB (p : Part) : (holdoverSecond p).portB = p.portB := by
  unfold holdoverSecond
  (repeat' split) <;> simp
@[simp] theorem holdoverSecond_streams (p : Part) : (holdoverSecond p).streams = p.streams := by
  unfold holdoverSecond
  (repeat' split) <;> simp
@[simp] theorem holdoverSecond_engine (p : Part) : (holdoverSecond p).engine = p.engine := by
  unfold holdoverSecond
  (repeat' split) <;> simp
@[simp] theorem holdoverSecond_sorter (p : Part) : (holdoverSecond p).sorter = p.sorter := by
  unfold holdoverSecond
  (repeat' split) <;> simp
@[simp] theorem holdoverSecond_lanes (p : Part) : (holdoverSecond p).lanes = p.lanes := by
  unfold holdoverSecond
  (repeat' split) <;> simp
@[simp] theorem holdoverSecond_store (p : Part) : (holdoverSecond p).store = p.store := by
  unfold holdoverSecond
  (repeat' split) <;> simp
@[simp] theorem holdoverSecond_egress (p : Part) : (holdoverSecond p).egress = p.egress := by
  unfold holdoverSecond
  (repeat' split) <;> simp

@[simp] theorem slewEnd_clock (p : Part) : (slewEnd p).clock = p.clock := by
  unfold slewEnd
  (repeat' split) <;> simp
@[simp] theorem slewEnd_idleSpan (p : Part) : (slewEnd p).idleSpan = p.idleSpan := by
  unfold slewEnd
  (repeat' split) <;> simp
@[simp] theorem slewEnd_freeUses (p : Part) : (slewEnd p).freeUses = p.freeUses := by
  unfold slewEnd
  (repeat' split) <;> simp
@[simp] theorem slewEnd_pins (p : Part) : (slewEnd p).pins = p.pins := by
  unfold slewEnd
  (repeat' split) <;> simp
@[simp] theorem slewEnd_straps (p : Part) : (slewEnd p).straps = p.straps := by
  unfold slewEnd
  (repeat' split) <;> simp
@[simp] theorem slewEnd_lastReset (p : Part) : (slewEnd p).lastReset = p.lastReset := by
  unfold slewEnd
  (repeat' split) <;> simp
@[simp] theorem slewEnd_filing (p : Part) : (slewEnd p).filing = p.filing := by
  unfold slewEnd
  (repeat' split) <;> simp
@[simp] theorem slewEnd_portA (p : Part) : (slewEnd p).portA = p.portA := by
  unfold slewEnd
  (repeat' split) <;> simp
@[simp] theorem slewEnd_portB (p : Part) : (slewEnd p).portB = p.portB := by
  unfold slewEnd
  (repeat' split) <;> simp
@[simp] theorem slewEnd_streams (p : Part) : (slewEnd p).streams = p.streams := by
  unfold slewEnd
  (repeat' split) <;> simp
@[simp] theorem slewEnd_engine (p : Part) : (slewEnd p).engine = p.engine := by
  unfold slewEnd
  (repeat' split) <;> simp
@[simp] theorem slewEnd_sorter (p : Part) : (slewEnd p).sorter = p.sorter := by
  unfold slewEnd
  (repeat' split) <;> simp
@[simp] theorem slewEnd_lanes (p : Part) : (slewEnd p).lanes = p.lanes := by
  unfold slewEnd
  (repeat' split) <;> simp
@[simp] theorem slewEnd_store (p : Part) : (slewEnd p).store = p.store := by
  unfold slewEnd
  (repeat' split) <;> simp
@[simp] theorem slewEnd_egress (p : Part) : (slewEnd p).egress = p.egress := by
  unfold slewEnd
  (repeat' split) <;> simp
@[simp] theorem slewEnd_control (p : Part) : (slewEnd p).control = p.control := by
  unfold slewEnd
  (repeat' split) <;> simp
@[simp] theorem slewEnd_attention (p : Part) : (slewEnd p).attention = p.attention := by
  unfold slewEnd
  (repeat' split) <;> simp

@[simp] theorem promote_clock (q : Nat) (r : RefPort) (p : Part) : (promote q r p).clock = p.clock := by
  unfold promote
  (repeat' split) <;> simp
@[simp] theorem promote_idleSpan (q : Nat) (r : RefPort) (p : Part) : (promote q r p).idleSpan = p.idleSpan := by
  unfold promote
  (repeat' split) <;> simp
@[simp] theorem promote_freeUses (q : Nat) (r : RefPort) (p : Part) : (promote q r p).freeUses = p.freeUses := by
  unfold promote
  (repeat' split) <;> simp
@[simp] theorem promote_pins (q : Nat) (r : RefPort) (p : Part) : (promote q r p).pins = p.pins := by
  unfold promote
  (repeat' split) <;> simp
@[simp] theorem promote_straps (q : Nat) (r : RefPort) (p : Part) : (promote q r p).straps = p.straps := by
  unfold promote
  (repeat' split) <;> simp
@[simp] theorem promote_lastReset (q : Nat) (r : RefPort) (p : Part) : (promote q r p).lastReset = p.lastReset := by
  unfold promote
  (repeat' split) <;> simp
@[simp] theorem promote_filing (q : Nat) (r : RefPort) (p : Part) : (promote q r p).filing = p.filing := by
  unfold promote
  (repeat' split) <;> simp
@[simp] theorem promote_streams (q : Nat) (r : RefPort) (p : Part) : (promote q r p).streams = p.streams := by
  unfold promote
  (repeat' split) <;> simp
@[simp] theorem promote_engine (q : Nat) (r : RefPort) (p : Part) : (promote q r p).engine = p.engine := by
  unfold promote
  (repeat' split) <;> simp
@[simp] theorem promote_sorter (q : Nat) (r : RefPort) (p : Part) : (promote q r p).sorter = p.sorter := by
  unfold promote
  (repeat' split) <;> simp
@[simp] theorem promote_lanes (q : Nat) (r : RefPort) (p : Part) : (promote q r p).lanes = p.lanes := by
  unfold promote
  (repeat' split) <;> simp
@[simp] theorem promote_store (q : Nat) (r : RefPort) (p : Part) : (promote q r p).store = p.store := by
  unfold promote
  (repeat' split) <;> simp
@[simp] theorem promote_egress (q : Nat) (r : RefPort) (p : Part) : (promote q r p).egress = p.egress := by
  unfold promote
  (repeat' split) <;> simp

@[simp] theorem reselect_clock (p : Part) : (reselect p).clock = p.clock := by
  unfold reselect
  dsimp only
  (repeat' split) <;> simp
@[simp] theorem reselect_idleSpan (p : Part) : (reselect p).idleSpan = p.idleSpan := by
  unfold reselect
  dsimp only
  (repeat' split) <;> simp
@[simp] theorem reselect_pins (p : Part) : (reselect p).pins = p.pins := by
  unfold reselect
  dsimp only
  (repeat' split) <;> simp
@[simp] theorem reselect_straps (p : Part) : (reselect p).straps = p.straps := by
  unfold reselect
  dsimp only
  (repeat' split) <;> simp
@[simp] theorem reselect_lastReset (p : Part) : (reselect p).lastReset = p.lastReset := by
  unfold reselect
  dsimp only
  (repeat' split) <;> simp
@[simp] theorem reselect_filing (p : Part) : (reselect p).filing = p.filing := by
  unfold reselect
  dsimp only
  (repeat' split) <;> simp
@[simp] theorem reselect_portA (p : Part) : (reselect p).portA = p.portA := by
  unfold reselect
  dsimp only
  (repeat' split) <;> simp
@[simp] theorem reselect_portB (p : Part) : (reselect p).portB = p.portB := by
  unfold reselect
  dsimp only
  (repeat' split) <;> simp
@[simp] theorem reselect_sorter (p : Part) : (reselect p).sorter = p.sorter := by
  unfold reselect
  dsimp only
  (repeat' split) <;> simp
@[simp] theorem reselect_lanes (p : Part) : (reselect p).lanes = p.lanes := by
  unfold reselect
  dsimp only
  (repeat' split) <;> simp

@[simp] theorem configureReference_clock (c : RefConfig) (p : Part) : (configureReference c p).clock = p.clock := by simp [configureReference]
@[simp] theorem configureReference_idleSpan (c : RefConfig) (p : Part) : (configureReference c p).idleSpan = p.idleSpan := by simp [configureReference]
@[simp] theorem configureReference_pins (c : RefConfig) (p : Part) : (configureReference c p).pins = p.pins := by simp [configureReference]
@[simp] theorem configureReference_straps (c : RefConfig) (p : Part) : (configureReference c p).straps = p.straps := by simp [configureReference]
@[simp] theorem configureReference_lastReset (c : RefConfig) (p : Part) : (configureReference c p).lastReset = p.lastReset := by simp [configureReference]
@[simp] theorem configureReference_filing (c : RefConfig) (p : Part) : (configureReference c p).filing = p.filing := by simp [configureReference]
@[simp] theorem configureReference_sorter (c : RefConfig) (p : Part) : (configureReference c p).sorter = p.sorter := by simp [configureReference]
@[simp] theorem configureReference_lanes (c : RefConfig) (p : Part) : (configureReference c p).lanes = p.lanes := by simp [configureReference]

@[simp] theorem selectReference_clock (r : RefPort) (p : Part) : (selectReference r p).clock = p.clock := by
  unfold selectReference
  (repeat' split) <;> simp
@[simp] theorem selectReference_idleSpan (r : RefPort) (p : Part) : (selectReference r p).idleSpan = p.idleSpan := by
  unfold selectReference
  (repeat' split) <;> simp
@[simp] theorem selectReference_pins (r : RefPort) (p : Part) : (selectReference r p).pins = p.pins := by
  unfold selectReference
  (repeat' split) <;> simp
@[simp] theorem selectReference_straps (r : RefPort) (p : Part) : (selectReference r p).straps = p.straps := by
  unfold selectReference
  (repeat' split) <;> simp
@[simp] theorem selectReference_lastReset (r : RefPort) (p : Part) : (selectReference r p).lastReset = p.lastReset := by
  unfold selectReference
  (repeat' split) <;> simp
@[simp] theorem selectReference_filing (r : RefPort) (p : Part) : (selectReference r p).filing = p.filing := by
  unfold selectReference
  (repeat' split) <;> simp
@[simp] theorem selectReference_portA (r : RefPort) (p : Part) : (selectReference r p).portA = p.portA := by
  unfold selectReference
  (repeat' split) <;> simp
@[simp] theorem selectReference_portB (r : RefPort) (p : Part) : (selectReference r p).portB = p.portB := by
  unfold selectReference
  (repeat' split) <;> simp
@[simp] theorem selectReference_sorter (r : RefPort) (p : Part) : (selectReference r p).sorter = p.sorter := by
  unfold selectReference
  (repeat' split) <;> simp
@[simp] theorem selectReference_lanes (r : RefPort) (p : Part) : (selectReference r p).lanes = p.lanes := by
  unfold selectReference
  (repeat' split) <;> simp

@[simp] theorem disturb_clock (p : Part) : (disturb p).clock = p.clock := by
  unfold disturb
  (repeat' split) <;> simp
@[simp] theorem disturb_idleSpan (p : Part) : (disturb p).idleSpan = p.idleSpan := by
  unfold disturb
  (repeat' split) <;> simp
@[simp] theorem disturb_pins (p : Part) : (disturb p).pins = p.pins := by
  unfold disturb
  (repeat' split) <;> simp
@[simp] theorem disturb_straps (p : Part) : (disturb p).straps = p.straps := by
  unfold disturb
  (repeat' split) <;> simp
@[simp] theorem disturb_lastReset (p : Part) : (disturb p).lastReset = p.lastReset := by
  unfold disturb
  (repeat' split) <;> simp
@[simp] theorem disturb_filing (p : Part) : (disturb p).filing = p.filing := by
  unfold disturb
  (repeat' split) <;> simp
@[simp] theorem disturb_portA (p : Part) : (disturb p).portA = p.portA := by
  unfold disturb
  (repeat' split) <;> simp
@[simp] theorem disturb_portB (p : Part) : (disturb p).portB = p.portB := by
  unfold disturb
  (repeat' split) <;> simp
@[simp] theorem disturb_timeBase (p : Part) : (disturb p).timeBase = p.timeBase := by
  unfold disturb
  (repeat' split) <;> simp
@[simp] theorem disturb_streams (p : Part) : (disturb p).streams = p.streams := by
  unfold disturb
  (repeat' split) <;> simp
@[simp] theorem disturb_engine (p : Part) : (disturb p).engine = p.engine := by
  unfold disturb
  (repeat' split) <;> simp
@[simp] theorem disturb_sorter (p : Part) : (disturb p).sorter = p.sorter := by
  unfold disturb
  (repeat' split) <;> simp
@[simp] theorem disturb_lanes (p : Part) : (disturb p).lanes = p.lanes := by
  unfold disturb
  (repeat' split) <;> simp
@[simp] theorem disturb_egress (p : Part) : (disturb p).egress = p.egress := by
  unfold disturb
  (repeat' split) <;> simp
@[simp] theorem disturb_control (p : Part) : (disturb p).control = p.control := by
  unfold disturb
  (repeat' split) <;> simp
@[simp] theorem disturb_attention (p : Part) : (disturb p).attention = p.attention := by
  unfold disturb
  (repeat' split) <;> simp

end Sys2Proof.Machine
end

