-- ==== Sys2Proof/Laws/SorterFrames.lean ====
section
/-! SUPPORT. What the operations of the Frame Sorter leave unchanged. -/

namespace Sys2Proof.Machine

@[simp] theorem countVerdict_clock (v : Verdict) (m : Option (Nat × Stream)) (p : Part) : (countVerdict v m p).clock = p.clock := by
  unfold countVerdict
  dsimp only
  (repeat' split) <;> simp
@[simp] theorem countVerdict_idleSpan (v : Verdict) (m : Option (Nat × Stream)) (p : Part) : (countVerdict v m p).idleSpan = p.idleSpan := by
  unfold countVerdict
  dsimp only
  (repeat' split) <;> simp
@[simp] theorem countVerdict_freeUses (v : Verdict) (m : Option (Nat × Stream)) (p : Part) : (countVerdict v m p).freeUses = p.freeUses := by
  unfold countVerdict
  dsimp only
  (repeat' split) <;> simp
@[simp] theorem countVerdict_pins (v : Verdict) (m : Option (Nat × Stream)) (p : Part) : (countVerdict v m p).pins = p.pins := by
  unfold countVerdict
  dsimp only
  (repeat' split) <;> simp
@[simp] theorem countVerdict_straps (v : Verdict) (m : Option (Nat × Stream)) (p : Part) : (countVerdict v m p).straps = p.straps := by
  unfold countVerdict
  dsimp only
  (repeat' split) <;> simp
@[simp] theorem countVerdict_lastReset (v : Verdict) (m : Option (Nat × Stream)) (p : Part) : (countVerdict v m p).lastReset = p.lastReset := by
  unfold countVerdict
  dsimp only
  (repeat' split) <;> simp
@[simp] theorem countVerdict_filing (v : Verdict) (m : Option (Nat × Stream)) (p : Part) : (countVerdict v m p).filing = p.filing := by
  unfold countVerdict
  dsimp only
  (repeat' split) <;> simp
@[simp] theorem countVerdict_portA (v : Verdict) (m : Option (Nat × Stream)) (p : Part) : (countVerdict v m p).portA = p.portA := by
  unfold countVerdict
  dsimp only
  (repeat' split) <;> simp
@[simp] theorem countVerdict_portB (v : Verdict) (m : Option (Nat × Stream)) (p : Part) : (countVerdict v m p).portB = p.portB := by
  unfold countVerdict
  dsimp only
  (repeat' split) <;> simp
@[simp] theorem countVerdict_timeBase (v : Verdict) (m : Option (Nat × Stream)) (p : Part) : (countVerdict v m p).timeBase = p.timeBase := by
  unfold countVerdict
  dsimp only
  (repeat' split) <;> simp
@[simp] theorem countVerdict_engine (v : Verdict) (m : Option (Nat × Stream)) (p : Part) : (countVerdict v m p).engine = p.engine := by
  unfold countVerdict
  dsimp only
  (repeat' split) <;> simp
@[simp] theorem countVerdict_lanes (v : Verdict) (m : Option (Nat × Stream)) (p : Part) : (countVerdict v m p).lanes = p.lanes := by
  unfold countVerdict
  dsimp only
  (repeat' split) <;> simp
@[simp] theorem countVerdict_store (v : Verdict) (m : Option (Nat × Stream)) (p : Part) : (countVerdict v m p).store = p.store := by
  unfold countVerdict
  dsimp only
  (repeat' split) <;> simp
@[simp] theorem countVerdict_egress (v : Verdict) (m : Option (Nat × Stream)) (p : Part) : (countVerdict v m p).egress = p.egress := by
  unfold countVerdict
  dsimp only
  (repeat' split) <;> simp
@[simp] theorem countVerdict_control (v : Verdict) (m : Option (Nat × Stream)) (p : Part) : (countVerdict v m p).control = p.control := by
  unfold countVerdict
  dsimp only
  (repeat' split) <;> simp
@[simp] theorem countVerdict_attention (v : Verdict) (m : Option (Nat × Stream)) (p : Part) : (countVerdict v m p).attention = p.attention := by
  unfold countVerdict
  dsimp only
  (repeat' split) <;> simp

/-- An early frame has no counter of its own (R41, R98): every slot stays as it is, and so do the strangers. -/
theorem countVerdict_early_slot (m : Option (Nat × Stream)) (p : Part) (j : Nat) :
    (countVerdict .early m p).streams.slot j = p.streams.slot j := by
  cases m with
  | none => rfl
  | some x => exact onStream_slot_id (fun _ => rfl) j

theorem countVerdict_strangers (v : Verdict) (m : Option (Nat × Stream)) (p : Part) :
    (countVerdict v m p).streams.strangers = p.streams.strangers ∧
      (countVerdict v m p).streams.unlisted = p.streams.unlisted := by
  unfold countVerdict
  split <;> simp

/-- In canonical form an early frame's counting leaves the whole Stream Table as it is. -/
theorem countVerdict_early_streams (m : Option (Nat × Stream)) (p : Part) (h : sparseWf Slot.vacant p.streams.slots = true) :
    (countVerdict .early m p).streams = p.streams := by
  cases m with
  | none => rfl
  | some x => exact onStream_id (fun _ => rfl) h

@[simp] theorem forward_clock (f : Sorted) (i : Nat) (st : Stream) (p : Part) : (forward f i st p).clock = p.clock := by simp [forward]
@[simp] theorem forward_idleSpan (f : Sorted) (i : Nat) (st : Stream) (p : Part) : (forward f i st p).idleSpan = p.idleSpan := by simp [forward]
@[simp] theorem forward_freeUses (f : Sorted) (i : Nat) (st : Stream) (p : Part) : (forward f i st p).freeUses = p.freeUses := by simp [forward]
@[simp] theorem forward_pins (f : Sorted) (i : Nat) (st : Stream) (p : Part) : (forward f i st p).pins = p.pins := by simp [forward]
@[simp] theorem forward_straps (f : Sorted) (i : Nat) (st : Stream) (p : Part) : (forward f i st p).straps = p.straps := by simp [forward]
@[simp] theorem forward_lastReset (f : Sorted) (i : Nat) (st : Stream) (p : Part) : (forward f i st p).lastReset = p.lastReset := by simp [forward]
@[simp] theorem forward_filing (f : Sorted) (i : Nat) (st : Stream) (p : Part) : (forward f i st p).filing = p.filing := by simp [forward]
@[simp] theorem forward_portA (f : Sorted) (i : Nat) (st : Stream) (p : Part) : (forward f i st p).portA = p.portA := by simp [forward]
@[simp] theorem forward_portB (f : Sorted) (i : Nat) (st : Stream) (p : Part) : (forward f i st p).portB = p.portB := by simp [forward]
@[simp] theorem forward_timeBase (f : Sorted) (i : Nat) (st : Stream) (p : Part) : (forward f i st p).timeBase = p.timeBase := by simp [forward]
@[simp] theorem forward_engine (f : Sorted) (i : Nat) (st : Stream) (p : Part) : (forward f i st p).engine = p.engine := by simp [forward]
@[simp] theorem forward_lanes (f : Sorted) (i : Nat) (st : Stream) (p : Part) : (forward f i st p).lanes = p.lanes := by simp [forward]
@[simp] theorem forward_control (f : Sorted) (i : Nat) (st : Stream) (p : Part) : (forward f i st p).control = p.control := by simp [forward]
@[simp] theorem forward_attention (f : Sorted) (i : Nat) (st : Stream) (p : Part) : (forward f i st p).attention = p.attention := by simp [forward]

@[simp] theorem takeLate_clock (f : Sorted) (i : Nat) (st : Stream) (p : Part) : (takeLate f i st p).clock = p.clock := by
  unfold takeLate
  (repeat' split) <;> simp
@[simp] theorem takeLate_idleSpan (f : Sorted) (i : Nat) (st : Stream) (p : Part) : (takeLate f i st p).idleSpan = p.idleSpan := by
  unfold takeLate
  (repeat' split) <;> simp
@[simp] theorem takeLate_freeUses (f : Sorted) (i : Nat) (st : Stream) (p : Part) : (takeLate f i st p).freeUses = p.freeUses := by
  unfold takeLate
  (repeat' split) <;> simp
@[simp] theorem takeLate_pins (f : Sorted) (i : Nat) (st : Stream) (p : Part) : (takeLate f i st p).pins = p.pins := by
  unfold takeLate
  (repeat' split) <;> simp
@[simp] theorem takeLate_straps (f : Sorted) (i : Nat) (st : Stream) (p : Part) : (takeLate f i st p).straps = p.straps := by
  unfold takeLate
  (repeat' split) <;> simp
@[simp] theorem takeLate_lastReset (f : Sorted) (i : Nat) (st : Stream) (p : Part) : (takeLate f i st p).lastReset = p.lastReset := by
  unfold takeLate
  (repeat' split) <;> simp
@[simp] theorem takeLate_filing (f : Sorted) (i : Nat) (st : Stream) (p : Part) : (takeLate f i st p).filing = p.filing := by
  unfold takeLate
  (repeat' split) <;> simp
@[simp] theorem takeLate_portA (f : Sorted) (i : Nat) (st : Stream) (p : Part) : (takeLate f i st p).portA = p.portA := by
  unfold takeLate
  (repeat' split) <;> simp
@[simp] theorem takeLate_portB (f : Sorted) (i : Nat) (st : Stream) (p : Part) : (takeLate f i st p).portB = p.portB := by
  unfold takeLate
  (repeat' split) <;> simp
@[simp] theorem takeLate_timeBase (f : Sorted) (i : Nat) (st : Stream) (p : Part) : (takeLate f i st p).timeBase = p.timeBase := by
  unfold takeLate
  (repeat' split) <;> simp
@[simp] theorem takeLate_engine (f : Sorted) (i : Nat) (st : Stream) (p : Part) : (takeLate f i st p).engine = p.engine := by
  unfold takeLate
  (repeat' split) <;> simp
@[simp] theorem takeLate_lanes (f : Sorted) (i : Nat) (st : Stream) (p : Part) : (takeLate f i st p).lanes = p.lanes := by
  unfold takeLate
  (repeat' split) <;> simp

@[simp] theorem fileEffects_clock (f : Sorted) (i : Nat) (st : Stream) (e : Epoch) (p : Part) : (fileEffects f i st e p).clock = p.clock := by simp [fileEffects]
@[simp] theorem fileEffects_idleSpan (f : Sorted) (i : Nat) (st : Stream) (e : Epoch) (p : Part) : (fileEffects f i st e p).idleSpan = p.idleSpan := by simp [fileEffects]
@[simp] theorem fileEffects_pins (f : Sorted) (i : Nat) (st : Stream) (e : Epoch) (p : Part) : (fileEffects f i st e p).pins = p.pins := by simp [fileEffects]
@[simp] theorem fileEffects_straps (f : Sorted) (i : Nat) (st : Stream) (e : Epoch) (p : Part) : (fileEffects f i st e p).straps = p.straps := by simp [fileEffects]
@[simp] theorem fileEffects_lastReset (f : Sorted) (i : Nat) (st : Stream) (e : Epoch) (p : Part) : (fileEffects f i st e p).lastReset = p.lastReset := by simp [fileEffects]
@[simp] theorem fileEffects_portA (f : Sorted) (i : Nat) (st : Stream) (e : Epoch) (p : Part) : (fileEffects f i st e p).portA = p.portA := by simp [fileEffects]
@[simp] theorem fileEffects_portB (f : Sorted) (i : Nat) (st : Stream) (e : Epoch) (p : Part) : (fileEffects f i st e p).portB = p.portB := by simp [fileEffects]
@[simp] theorem fileEffects_timeBase (f : Sorted) (i : Nat) (st : Stream) (e : Epoch) (p : Part) : (fileEffects f i st e p).timeBase = p.timeBase := by simp [fileEffects]
@[simp] theorem fileEffects_lanes (f : Sorted) (i : Nat) (st : Stream) (e : Epoch) (p : Part) : (fileEffects f i st e p).lanes = p.lanes := by simp [fileEffects]
@[simp] theorem fileEffects_egress (f : Sorted) (i : Nat) (st : Stream) (e : Epoch) (p : Part) : (fileEffects f i st e p).egress = p.egress := by simp [fileEffects]

@[simp] theorem completeAt_clock (l : Label) (p : Part) : (completeAt l p).clock = p.clock := by simp [completeAt]
@[simp] theorem completeAt_idleSpan (l : Label) (p : Part) : (completeAt l p).idleSpan = p.idleSpan := by simp [completeAt]
@[simp] theorem completeAt_freeUses (l : Label) (p : Part) : (completeAt l p).freeUses = p.freeUses := by simp [completeAt]
@[simp] theorem completeAt_pins (l : Label) (p : Part) : (completeAt l p).pins = p.pins := by simp [completeAt]
@[simp] theorem completeAt_straps (l : Label) (p : Part) : (completeAt l p).straps = p.straps := by simp [completeAt]
@[simp] theorem completeAt_lastReset (l : Label) (p : Part) : (completeAt l p).lastReset = p.lastReset := by simp [completeAt]
@[simp] theorem completeAt_filing (l : Label) (p : Part) : (completeAt l p).filing = p.filing := by simp [completeAt]
@[simp] theorem completeAt_portA (l : Label) (p : Part) : (completeAt l p).portA = p.portA := by simp [completeAt]
@[simp] theorem completeAt_portB (l : Label) (p : Part) : (completeAt l p).portB = p.portB := by simp [completeAt]
@[simp] theorem completeAt_timeBase (l : Label) (p : Part) : (completeAt l p).timeBase = p.timeBase := by simp [completeAt]
@[simp] theorem completeAt_streams (l : Label) (p : Part) : (completeAt l p).streams = p.streams := by simp [completeAt]
@[simp] theorem completeAt_sorter (l : Label) (p : Part) : (completeAt l p).sorter = p.sorter := by simp [completeAt]
@[simp] theorem completeAt_lanes (l : Label) (p : Part) : (completeAt l p).lanes = p.lanes := by simp [completeAt]
@[simp] theorem completeAt_store (l : Label) (p : Part) : (completeAt l p).store = p.store := by simp [completeAt]
@[simp] theorem completeAt_egress (l : Label) (p : Part) : (completeAt l p).egress = p.egress := by simp [completeAt]
@[simp] theorem completeAt_control (l : Label) (p : Part) : (completeAt l p).control = p.control := by simp [completeAt]
@[simp] theorem completeAt_attention (l : Label) (p : Part) : (completeAt l p).attention = p.attention := by simp [completeAt]

@[simp] theorem fileInto_clock (f : Sorted) (i : Nat) (st : Stream) (l : Label) (p : Part) : (fileInto f i st l p).clock = p.clock := by
  unfold fileInto
  dsimp only
  (repeat' split) <;> simp
@[simp] theorem fileInto_idleSpan (f : Sorted) (i : Nat) (st : Stream) (l : Label) (p : Part) : (fileInto f i st l p).idleSpan = p.idleSpan := by
  unfold fileInto
  dsimp only
  (repeat' split) <;> simp
@[simp] theorem fileInto_pins (f : Sorted) (i : Nat) (st : Stream) (l : Label) (p : Part) : (fileInto f i st l p).pins = p.pins := by
  unfold fileInto
  dsimp only
  (repeat' split) <;> simp
@[simp] theorem fileInto_straps (f : Sorted) (i : Nat) (st : Stream) (l : Label) (p : Part) : (fileInto f i st l p).straps = p.straps := by
  unfold fileInto
  dsimp only
  (repeat' split) <;> simp
@[simp] theorem fileInto_lastReset (f : Sorted) (i : Nat) (st : Stream) (l : Label) (p : Part) : (fileInto f i st l p).lastReset = p.lastReset := by
  unfold fileInto
  dsimp only
  (repeat' split) <;> simp
@[simp] theorem fileInto_portA (f : Sorted) (i : Nat) (st : Stream) (l : Label) (p : Part) : (fileInto f i st l p).portA = p.portA := by
  unfold fileInto
  dsimp only
  (repeat' split) <;> simp
@[simp] theorem fileInto_portB (f : Sorted) (i : Nat) (st : Stream) (l : Label) (p : Part) : (fileInto f i st l p).portB = p.portB := by
  unfold fileInto
  dsimp only
  (repeat' split) <;> simp
@[simp] theorem fileInto_timeBase (f : Sorted) (i : Nat) (st : Stream) (l : Label) (p : Part) : (fileInto f i st l p).timeBase = p.timeBase := by
  unfold fileInto
  dsimp only
  (repeat' split) <;> simp
@[simp] theorem fileInto_lanes (f : Sorted) (i : Nat) (st : Stream) (l : Label) (p : Part) : (fileInto f i st l p).lanes = p.lanes := by
  unfold fileInto
  dsimp only
  (repeat' split) <;> simp

@[simp] theorem takeEarly_clock (f : Sorted) (i : Nat) (st : Stream) (l : Label) (p : Part) : (takeEarly f i st l p).clock = p.clock := by
  unfold takeEarly
  (repeat' split) <;> simp
@[simp] theorem takeEarly_idleSpan (f : Sorted) (i : Nat) (st : Stream) (l : Label) (p : Part) : (takeEarly f i st l p).idleSpan = p.idleSpan := by
  unfold takeEarly
  (repeat' split) <;> simp
@[simp] theorem takeEarly_pins (f : Sorted) (i : Nat) (st : Stream) (l : Label) (p : Part) : (takeEarly f i st l p).pins = p.pins := by
  unfold takeEarly
  (repeat' split) <;> simp
@[simp] theorem takeEarly_straps (f : Sorted) (i : Nat) (st : Stream) (l : Label) (p : Part) : (takeEarly f i st l p).straps = p.straps := by
  unfold takeEarly
  (repeat' split) <;> simp
@[simp] theorem takeEarly_lastReset (f : Sorted) (i : Nat) (st : Stream) (l : Label) (p : Part) : (takeEarly f i st l p).lastReset = p.lastReset := by
  unfold takeEarly
  (repeat' split) <;> simp
@[simp] theorem takeEarly_portA (f : Sorted) (i : Nat) (st : Stream) (l : Label) (p : Part) : (takeEarly f i st l p).portA = p.portA := by
  unfold takeEarly
  (repeat' split) <;> simp
@[simp] theorem takeEarly_portB (f : Sorted) (i : Nat) (st : Stream) (l : Label) (p : Part) : (takeEarly f i st l p).portB = p.portB := by
  unfold takeEarly
  (repeat' split) <;> simp
@[simp] theorem takeEarly_timeBase (f : Sorted) (i : Nat) (st : Stream) (l : Label) (p : Part) : (takeEarly f i st l p).timeBase = p.timeBase := by
  unfold takeEarly
  (repeat' split) <;> simp
@[simp] theorem takeEarly_lanes (f : Sorted) (i : Nat) (st : Stream) (l : Label) (p : Part) : (takeEarly f i st l p).lanes = p.lanes := by
  unfold takeEarly
  (repeat' split) <;> simp

@[simp] theorem takeMatched_clock (v : Verdict) (f : Sorted) (i : Nat) (st : Stream) (p : Part) : (takeMatched v f i st p).clock = p.clock := by
  unfold takeMatched
  dsimp only
  (repeat' split) <;> simp
@[simp] theorem takeMatched_idleSpan (v : Verdict) (f : Sorted) (i : Nat) (st : Stream) (p : Part) : (takeMatched v f i st p).idleSpan = p.idleSpan := by
  unfold takeMatched
  dsimp only
  (repeat' split) <;> simp
@[simp] theorem takeMatched_pins (v : Verdict) (f : Sorted) (i : Nat) (st : Stream) (p : Part) : (takeMatched v f i st p).pins = p.pins := by
  unfold takeMatched
  dsimp only
  (repeat' split) <;> simp
@[simp] theorem takeMatched_straps (v : Verdict) (f : Sorted) (i : Nat) (st : Stream) (p : Part) : (takeMatched v f i st p).straps = p.straps := by
  unfold takeMatched
  dsimp only
  (repeat' split) <;> simp
@[simp] theorem takeMatched_lastReset (v : Verdict) (f : Sorted) (i : Nat) (st : Stream) (p : Part) : (takeMatched v f i st p).lastReset = p.lastReset := by
  unfold takeMatched
  dsimp only
  (repeat' split) <;> simp
@[simp] theorem takeMatched_portA (v : Verdict) (f : Sorted) (i : Nat) (st : Stream) (p : Part) : (takeMatched v f i st p).portA = p.portA := by
  unfold takeMatched
  dsimp only
  (repeat' split) <;> simp
@[simp] theorem takeMatched_portB (v : Verdict) (f : Sorted) (i : Nat) (st : Stream) (p : Part) : (takeMatched v f i st p).portB = p.portB := by
  unfold takeMatched
  dsimp only
  (repeat' split) <;> simp
@[simp] theorem takeMatched_timeBase (v : Verdict) (f : Sorted) (i : Nat) (st : Stream) (p : Part) : (takeMatched v f i st p).timeBase = p.timeBase := by
  unfold takeMatched
  dsimp only
  (repeat' split) <;> simp
@[simp] theorem takeMatched_lanes (v : Verdict) (f : Sorted) (i : Nat) (st : Stream) (p : Part) : (takeMatched v f i st p).lanes = p.lanes := by
  unfold takeMatched
  dsimp only
  (repeat' split) <;> simp

@[simp] theorem takeUnmatched_clock (v : Verdict) (f : Sorted) (p : Part) : (takeUnmatched v f p).clock = p.clock := by
  unfold takeUnmatched
  dsimp only
  (repeat' split) <;> simp
@[simp] theorem takeUnmatched_idleSpan (v : Verdict) (f : Sorted) (p : Part) : (takeUnmatched v f p).idleSpan = p.idleSpan := by
  unfold takeUnmatched
  dsimp only
  (repeat' split) <;> simp
@[simp] theorem takeUnmatched_freeUses (v : Verdict) (f : Sorted) (p : Part) : (takeUnmatched v f p).freeUses = p.freeUses := by
  unfold takeUnmatched
  dsimp only
  (repeat' split) <;> simp
@[simp] theorem takeUnmatched_pins (v : Verdict) (f : Sorted) (p : Part) : (takeUnmatched v f p).pins = p.pins := by
  unfold takeUnmatched
  dsimp only
  (repeat' split) <;> simp
@[simp] theorem takeUnmatched_straps (v : Verdict) (f : Sorted) (p : Part) : (takeUnmatched v f p).straps = p.straps := by
  unfold takeUnmatched
  dsimp only
  (repeat' split) <;> simp
@[simp] theorem takeUnmatched_lastReset (v : Verdict) (f : Sorted) (p : Part) : (takeUnmatched v f p).lastReset = p.lastReset := by
  unfold takeUnmatched
  dsimp only
  (repeat' split) <;> simp
@[simp] theorem takeUnmatched_filing (v : Verdict) (f : Sorted) (p : Part) : (takeUnmatched v f p).filing = p.filing := by
  unfold takeUnmatched
  dsimp only
  (repeat' split) <;> simp
@[simp] theorem takeUnmatched_portA (v : Verdict) (f : Sorted) (p : Part) : (takeUnmatched v f p).portA = p.portA := by
  unfold takeUnmatched
  dsimp only
  (repeat' split) <;> simp
@[simp] theorem takeUnmatched_portB (v : Verdict) (f : Sorted) (p : Part) : (takeUnmatched v f p).portB = p.portB := by
  unfold takeUnmatched
  dsimp only
  (repeat' split) <;> simp
@[simp] theorem takeUnmatched_timeBase (v : Verdict) (f : Sorted) (p : Part) : (takeUnmatched v f p).timeBase = p.timeBase := by
  unfold takeUnmatched
  dsimp only
  (repeat' split) <;> simp
@[simp] theorem takeUnmatched_engine (v : Verdict) (f : Sorted) (p : Part) : (takeUnmatched v f p).engine = p.engine := by
  unfold takeUnmatched
  dsimp only
  (repeat' split) <;> simp
@[simp] theorem takeUnmatched_sorter (v : Verdict) (f : Sorted) (p : Part) : (takeUnmatched v f p).sorter = p.sorter := by
  unfold takeUnmatched
  dsimp only
  (repeat' split) <;> simp
@[simp] theorem takeUnmatched_lanes (v : Verdict) (f : Sorted) (p : Part) : (takeUnmatched v f p).lanes = p.lanes := by
  unfold takeUnmatched
  dsimp only
  (repeat' split) <;> simp
@[simp] theorem takeUnmatched_egress (v : Verdict) (f : Sorted) (p : Part) : (takeUnmatched v f p).egress = p.egress := by
  unfold takeUnmatched
  dsimp only
  (repeat' split) <;> simp

@[simp] theorem settle_clock (v : Verdict) (m : Option (Nat × Stream)) (f : Sorted) (p : Part) : (settle v m f p).clock = p.clock := by
  unfold settle
  dsimp only
  (repeat' split) <;> simp
@[simp] theorem settle_idleSpan (v : Verdict) (m : Option (Nat × Stream)) (f : Sorted) (p : Part) : (settle v m f p).idleSpan = p.idleSpan := by
  unfold settle
  dsimp only
  (repeat' split) <;> simp
@[simp] theorem settle_pins (v : Verdict) (m : Option (Nat × Stream)) (f : Sorted) (p : Part) : (settle v m f p).pins = p.pins := by
  unfold settle
  dsimp only
  (repeat' split) <;> simp
@[simp] theorem settle_straps (v : Verdict) (m : Option (Nat × Stream)) (f : Sorted) (p : Part) : (settle v m f p).straps = p.straps := by
  unfold settle
  dsimp only
  (repeat' split) <;> simp
@[simp] theorem settle_lastReset (v : Verdict) (m : Option (Nat × Stream)) (f : Sorted) (p : Part) : (settle v m f p).lastReset = p.lastReset := by
  unfold settle
  dsimp only
  (repeat' split) <;> simp
@[simp] theorem settle_portA (v : Verdict) (m : Option (Nat × Stream)) (f : Sorted) (p : Part) : (settle v m f p).portA = p.portA := by
  unfold settle
  dsimp only
  (repeat' split) <;> simp
@[simp] theorem settle_portB (v : Verdict) (m : Option (Nat × Stream)) (f : Sorted) (p : Part) : (settle v m f p).portB = p.portB := by
  unfold settle
  dsimp only
  (repeat' split) <;> simp
@[simp] theorem settle_timeBase (v : Verdict) (m : Option (Nat × Stream)) (f : Sorted) (p : Part) : (settle v m f p).timeBase = p.timeBase := by
  unfold settle
  dsimp only
  (repeat' split) <;> simp
@[simp] theorem settle_lanes (v : Verdict) (m : Option (Nat × Stream)) (f : Sorted) (p : Part) : (settle v m f p).lanes = p.lanes := by
  unfold settle
  dsimp only
  (repeat' split) <;> simp

@[simp] theorem takeHead_clock (l : LaneId) (p : Part) : (takeHead l p).clock = p.clock := by simp [takeHead]
@[simp] theorem takeHead_idleSpan (l : LaneId) (p : Part) : (takeHead l p).idleSpan = p.idleSpan := by simp [takeHead]
@[simp] theorem takeHead_freeUses (l : LaneId) (p : Part) : (takeHead l p).freeUses = p.freeUses := by simp [takeHead]
@[simp] theorem takeHead_pins (l : LaneId) (p : Part) : (takeHead l p).pins = p.pins := by simp [takeHead]
@[simp] theorem takeHead_straps (l : LaneId) (p : Part) : (takeHead l p).straps = p.straps := by simp [takeHead]
@[simp] theorem takeHead_lastReset (l : LaneId) (p : Part) : (takeHead l p).lastReset = p.lastReset := by simp [takeHead]
@[simp] theorem takeHead_filing (l : LaneId) (p : Part) : (takeHead l p).filing = p.filing := by simp [takeHead]
@[simp] theorem takeHead_portA (l : LaneId) (p : Part) : (takeHead l p).portA = p.portA := by simp [takeHead]
@[simp] theorem takeHead_portB (l : LaneId) (p : Part) : (takeHead l p).portB = p.portB := by simp [takeHead]
@[simp] theorem takeHead_timeBase (l : LaneId) (p : Part) : (takeHead l p).timeBase = p.timeBase := by simp [takeHead]
@[simp] theorem takeHead_streams (l : LaneId) (p : Part) : (takeHead l p).streams = p.streams := by simp [takeHead]
@[simp] theorem takeHead_engine (l : LaneId) (p : Part) : (takeHead l p).engine = p.engine := by simp [takeHead]
@[simp] theorem takeHead_store (l : LaneId) (p : Part) : (takeHead l p).store = p.store := by simp [takeHead]
@[simp] theorem takeHead_egress (l : LaneId) (p : Part) : (takeHead l p).egress = p.egress := by simp [takeHead]

@[simp] theorem sortLane_clock (l : LaneId) (e : LaneEntry) (p : Part) : (sortLane l e p).clock = p.clock := by simp [sortLane]
@[simp] theorem sortLane_idleSpan (l : LaneId) (e : LaneEntry) (p : Part) : (sortLane l e p).idleSpan = p.idleSpan := by simp [sortLane]
@[simp] theorem sortLane_pins (l : LaneId) (e : LaneEntry) (p : Part) : (sortLane l e p).pins = p.pins := by simp [sortLane]
@[simp] theorem sortLane_straps (l : LaneId) (e : LaneEntry) (p : Part) : (sortLane l e p).straps = p.straps := by simp [sortLane]
@[simp] theorem sortLane_lastReset (l : LaneId) (e : LaneEntry) (p : Part) : (sortLane l e p).lastReset = p.lastReset := by simp [sortLane]
@[simp] theorem sortLane_portA (l : LaneId) (e : LaneEntry) (p : Part) : (sortLane l e p).portA = p.portA := by simp [sortLane]
@[simp] theorem sortLane_portB (l : LaneId) (e : LaneEntry) (p : Part) : (sortLane l e p).portB = p.portB := by simp [sortLane]
@[simp] theorem sortLane_timeBase (l : LaneId) (e : LaneEntry) (p : Part) : (sortLane l e p).timeBase = p.timeBase := by simp [sortLane]

@[simp] theorem sort_clock (p : Part) : (sort p).clock = p.clock := by
  unfold sort
  (repeat' split) <;> simp
@[simp] theorem sort_idleSpan (p : Part) : (sort p).idleSpan = p.idleSpan := by
  unfold sort
  (repeat' split) <;> simp
@[simp] theorem sort_pins (p : Part) : (sort p).pins = p.pins := by
  unfold sort
  (repeat' split) <;> simp
@[simp] theorem sort_straps (p : Part) : (sort p).straps = p.straps := by
  unfold sort
  (repeat' split) <;> simp
@[simp] theorem sort_lastReset (p : Part) : (sort p).lastReset = p.lastReset := by
  unfold sort
  (repeat' split) <;> simp
@[simp] theorem sort_portA (p : Part) : (sort p).portA = p.portA := by
  unfold sort
  (repeat' split) <;> simp
@[simp] theorem sort_portB (p : Part) : (sort p).portB = p.portB := by
  unfold sort
  (repeat' split) <;> simp
@[simp] theorem sort_timeBase (p : Part) : (sort p).timeBase = p.timeBase := by
  unfold sort
  (repeat' split) <;> simp

end Sys2Proof.Machine
end

