-- ==== Sys2Proof/Laws/PinFrames.lean ====
section
/-! SUPPORT. What the changes of ISOLATE and the completion of a restart leave unchanged. -/

namespace Sys2Proof.Machine

@[simp] theorem setIsolate_clock (v : Bool) (p : Part) : (Part.setIsolate v p).clock = p.clock := rfl
@[simp] theorem setIsolate_idleSpan (v : Bool) (p : Part) : (Part.setIsolate v p).idleSpan = p.idleSpan := rfl
@[simp] theorem setIsolate_freeUses (v : Bool) (p : Part) : (Part.setIsolate v p).freeUses = p.freeUses := rfl
@[simp] theorem setIsolate_straps (v : Bool) (p : Part) : (Part.setIsolate v p).straps = p.straps := rfl
@[simp] theorem setIsolate_lastReset (v : Bool) (p : Part) : (Part.setIsolate v p).lastReset = p.lastReset := rfl
@[simp] theorem setIsolate_filing (v : Bool) (p : Part) : (Part.setIsolate v p).filing = p.filing := rfl
@[simp] theorem setIsolate_portA (v : Bool) (p : Part) : (Part.setIsolate v p).portA = p.portA := rfl
@[simp] theorem setIsolate_portB (v : Bool) (p : Part) : (Part.setIsolate v p).portB = p.portB := rfl
@[simp] theorem setIsolate_timeBase (v : Bool) (p : Part) : (Part.setIsolate v p).timeBase = p.timeBase := rfl
@[simp] theorem setIsolate_streams (v : Bool) (p : Part) : (Part.setIsolate v p).streams = p.streams := rfl
@[simp] theorem setIsolate_engine (v : Bool) (p : Part) : (Part.setIsolate v p).engine = p.engine := rfl
@[simp] theorem setIsolate_sorter (v : Bool) (p : Part) : (Part.setIsolate v p).sorter = p.sorter := rfl
@[simp] theorem setIsolate_lanes (v : Bool) (p : Part) : (Part.setIsolate v p).lanes = p.lanes := rfl
@[simp] theorem setIsolate_store (v : Bool) (p : Part) : (Part.setIsolate v p).store = p.store := rfl
@[simp] theorem setIsolate_egress (v : Bool) (p : Part) : (Part.setIsolate v p).egress = p.egress := rfl
@[simp] theorem setIsolate_control (v : Bool) (p : Part) : (Part.setIsolate v p).control = p.control := rfl
@[simp] theorem setIsolate_attention (v : Bool) (p : Part) : (Part.setIsolate v p).attention = p.attention := rfl

@[simp] theorem openGate_clock (p : Part) : (openGate p).clock = p.clock := rfl
@[simp] theorem openGate_idleSpan (p : Part) : (openGate p).idleSpan = p.idleSpan := rfl
@[simp] theorem openGate_freeUses (p : Part) : (openGate p).freeUses = p.freeUses := rfl
@[simp] theorem openGate_pins (p : Part) : (openGate p).pins = p.pins := rfl
@[simp] theorem openGate_straps (p : Part) : (openGate p).straps = p.straps := rfl
@[simp] theorem openGate_lastReset (p : Part) : (openGate p).lastReset = p.lastReset := rfl
@[simp] theorem openGate_filing (p : Part) : (openGate p).filing = p.filing := rfl
@[simp] theorem openGate_portA (p : Part) : (openGate p).portA = p.portA := rfl
@[simp] theorem openGate_portB (p : Part) : (openGate p).portB = p.portB := rfl
@[simp] theorem openGate_timeBase (p : Part) : (openGate p).timeBase = p.timeBase := rfl
@[simp] theorem openGate_streams (p : Part) : (openGate p).streams = p.streams := rfl
@[simp] theorem openGate_engine (p : Part) : (openGate p).engine = p.engine := rfl
@[simp] theorem openGate_sorter (p : Part) : (openGate p).sorter = p.sorter := rfl
@[simp] theorem openGate_lanes (p : Part) : (openGate p).lanes = p.lanes := rfl
@[simp] theorem openGate_store (p : Part) : (openGate p).store = p.store := rfl
@[simp] theorem openGate_egress (p : Part) : (openGate p).egress = p.egress := rfl
@[simp] theorem openGate_control (p : Part) : (openGate p).control = p.control := rfl

@[simp] theorem raiseIf_clock (b : Bool) (c : Cause) (p : Part) : (raiseIf b c p).clock = p.clock := by
  unfold raiseIf
  (repeat' split) <;> simp
@[simp] theorem raiseIf_idleSpan (b : Bool) (c : Cause) (p : Part) : (raiseIf b c p).idleSpan = p.idleSpan := by
  unfold raiseIf
  (repeat' split) <;> simp
@[simp] theorem raiseIf_freeUses (b : Bool) (c : Cause) (p : Part) : (raiseIf b c p).freeUses = p.freeUses := by
  unfold raiseIf
  (repeat' split) <;> simp
@[simp] theorem raiseIf_pins (b : Bool) (c : Cause) (p : Part) : (raiseIf b c p).pins = p.pins := by
  unfold raiseIf
  (repeat' split) <;> simp
@[simp] theorem raiseIf_straps (b : Bool) (c : Cause) (p : Part) : (raiseIf b c p).straps = p.straps := by
  unfold raiseIf
  (repeat' split) <;> simp
@[simp] theorem raiseIf_lastReset (b : Bool) (c : Cause) (p : Part) : (raiseIf b c p).lastReset = p.lastReset := by
  unfold raiseIf
  (repeat' split) <;> simp
@[simp] theorem raiseIf_filing (b : Bool) (c : Cause) (p : Part) : (raiseIf b c p).filing = p.filing := by
  unfold raiseIf
  (repeat' split) <;> simp
@[simp] theorem raiseIf_portA (b : Bool) (c : Cause) (p : Part) : (raiseIf b c p).portA = p.portA := by
  unfold raiseIf
  (repeat' split) <;> simp
@[simp] theorem raiseIf_portB (b : Bool) (c : Cause) (p : Part) : (raiseIf b c p).portB = p.portB := by
  unfold raiseIf
  (repeat' split) <;> simp
@[simp] theorem raiseIf_timeBase (b : Bool) (c : Cause) (p : Part) : (raiseIf b c p).timeBase = p.timeBase := by
  unfold raiseIf
  (repeat' split) <;> simp
@[simp] theorem raiseIf_streams (b : Bool) (c : Cause) (p : Part) : (raiseIf b c p).streams = p.streams := by
  unfold raiseIf
  (repeat' split) <;> simp
@[simp] theorem raiseIf_engine (b : Bool) (c : Cause) (p : Part) : (raiseIf b c p).engine = p.engine := by
  unfold raiseIf
  (repeat' split) <;> simp
@[simp] theorem raiseIf_sorter (b : Bool) (c : Cause) (p : Part) : (raiseIf b c p).sorter = p.sorter := by
  unfold raiseIf
  (repeat' split) <;> simp
@[simp] theorem raiseIf_lanes (b : Bool) (c : Cause) (p : Part) : (raiseIf b c p).lanes = p.lanes := by
  unfold raiseIf
  (repeat' split) <;> simp
@[simp] theorem raiseIf_store (b : Bool) (c : Cause) (p : Part) : (raiseIf b c p).store = p.store := by
  unfold raiseIf
  (repeat' split) <;> simp
@[simp] theorem raiseIf_egress (b : Bool) (c : Cause) (p : Part) : (raiseIf b c p).egress = p.egress := by
  unfold raiseIf
  (repeat' split) <;> simp
@[simp] theorem raiseIf_control (b : Bool) (c : Cause) (p : Part) : (raiseIf b c p).control = p.control := by
  unfold raiseIf
  (repeat' split) <;> simp

@[simp] theorem raiseKept_clock (p : Part) : (raiseKept p).clock = p.clock := by simp [raiseKept]
@[simp] theorem raiseKept_idleSpan (p : Part) : (raiseKept p).idleSpan = p.idleSpan := by simp [raiseKept]
@[simp] theorem raiseKept_freeUses (p : Part) : (raiseKept p).freeUses = p.freeUses := by simp [raiseKept]
@[simp] theorem raiseKept_pins (p : Part) : (raiseKept p).pins = p.pins := by simp [raiseKept]
@[simp] theorem raiseKept_straps (p : Part) : (raiseKept p).straps = p.straps := by simp [raiseKept]
@[simp] theorem raiseKept_lastReset (p : Part) : (raiseKept p).lastReset = p.lastReset := by simp [raiseKept]
@[simp] theorem raiseKept_filing (p : Part) : (raiseKept p).filing = p.filing := by simp [raiseKept]
@[simp] theorem raiseKept_portA (p : Part) : (raiseKept p).portA = p.portA := by simp [raiseKept]
@[simp] theorem raiseKept_portB (p : Part) : (raiseKept p).portB = p.portB := by simp [raiseKept]
@[simp] theorem raiseKept_timeBase (p : Part) : (raiseKept p).timeBase = p.timeBase := by simp [raiseKept]
@[simp] theorem raiseKept_streams (p : Part) : (raiseKept p).streams = p.streams := by simp [raiseKept]
@[simp] theorem raiseKept_engine (p : Part) : (raiseKept p).engine = p.engine := by simp [raiseKept]
@[simp] theorem raiseKept_sorter (p : Part) : (raiseKept p).sorter = p.sorter := by simp [raiseKept]
@[simp] theorem raiseKept_lanes (p : Part) : (raiseKept p).lanes = p.lanes := by simp [raiseKept]
@[simp] theorem raiseKept_store (p : Part) : (raiseKept p).store = p.store := by simp [raiseKept]
@[simp] theorem raiseKept_egress (p : Part) : (raiseKept p).egress = p.egress := by simp [raiseKept]
@[simp] theorem raiseKept_control (p : Part) : (raiseKept p).control = p.control := by simp [raiseKept]

@[simp] theorem isolateAsserted_clock (p : Part) : (isolateAsserted p).clock = p.clock := by
  unfold isolateAsserted
  (repeat' split) <;> simp
@[simp] theorem isolateAsserted_idleSpan (p : Part) : (isolateAsserted p).idleSpan = p.idleSpan := by
  unfold isolateAsserted
  (repeat' split) <;> simp
@[simp] theorem isolateAsserted_freeUses (p : Part) : (isolateAsserted p).freeUses = p.freeUses := by
  unfold isolateAsserted
  (repeat' split) <;> simp
@[simp] theorem isolateAsserted_straps (p : Part) : (isolateAsserted p).straps = p.straps := by
  unfold isolateAsserted
  (repeat' split) <;> simp
@[simp] theorem isolateAsserted_lastReset (p : Part) : (isolateAsserted p).lastReset = p.lastReset := by
  unfold isolateAsserted
  (repeat' split) <;> simp
@[simp] theorem isolateAsserted_filing (p : Part) : (isolateAsserted p).filing = p.filing := by
  unfold isolateAsserted
  (repeat' split) <;> simp
@[simp] theorem isolateAsserted_portA (p : Part) : (isolateAsserted p).portA = p.portA := by
  unfold isolateAsserted
  (repeat' split) <;> simp
@[simp] theorem isolateAsserted_portB (p : Part) : (isolateAsserted p).portB = p.portB := by
  unfold isolateAsserted
  (repeat' split) <;> simp
@[simp] theorem isolateAsserted_timeBase (p : Part) : (isolateAsserted p).timeBase = p.timeBase := by
  unfold isolateAsserted
  (repeat' split) <;> simp
@[simp] theorem isolateAsserted_streams (p : Part) : (isolateAsserted p).streams = p.streams := by
  unfold isolateAsserted
  (repeat' split) <;> simp
@[simp] theorem isolateAsserted_sorter (p : Part) : (isolateAsserted p).sorter = p.sorter := by
  unfold isolateAsserted
  (repeat' split) <;> simp

@[simp] theorem isolateRemoved_clock (p : Part) : (isolateRemoved p).clock = p.clock := by
  unfold isolateRemoved
  (repeat' split) <;> simp
@[simp] theorem isolateRemoved_idleSpan (p : Part) : (isolateRemoved p).idleSpan = p.idleSpan := by
  unfold isolateRemoved
  (repeat' split) <;> simp
@[simp] theorem isolateRemoved_freeUses (p : Part) : (isolateRemoved p).freeUses = p.freeUses := by
  unfold isolateRemoved
  (repeat' split) <;> simp
@[simp] theorem isolateRemoved_straps (p : Part) : (isolateRemoved p).straps = p.straps := by
  unfold isolateRemoved
  (repeat' split) <;> simp
@[simp] theorem isolateRemoved_lastReset (p : Part) : (isolateRemoved p).lastReset = p.lastReset := by
  unfold isolateRemoved
  (repeat' split) <;> simp
@[simp] theorem isolateRemoved_filing (p : Part) : (isolateRemoved p).filing = p.filing := by
  unfold isolateRemoved
  (repeat' split) <;> simp
@[simp] theorem isolateRemoved_portA (p : Part) : (isolateRemoved p).portA = p.portA := by
  unfold isolateRemoved
  (repeat' split) <;> simp
@[simp] theorem isolateRemoved_portB (p : Part) : (isolateRemoved p).portB = p.portB := by
  unfold isolateRemoved
  (repeat' split) <;> simp
@[simp] theorem isolateRemoved_timeBase (p : Part) : (isolateRemoved p).timeBase = p.timeBase := by
  unfold isolateRemoved
  (repeat' split) <;> simp
@[simp] theorem isolateRemoved_sorter (p : Part) : (isolateRemoved p).sorter = p.sorter := by
  unfold isolateRemoved
  (repeat' split) <;> simp

end Sys2Proof.Machine
end

