-- ==== Sys2Proof/Laws/Receiver.lean ====
section
/-! SUPPORT. What a receiver does with one byte in each phase: the receiver it leaves and what it has met. A given-up
envelope is covered where none of the bytes scanned again is a lead byte. -/

namespace Sys2Proof.Machine

/-- Bytes with no lead byte among them leave a hunting receiver as it is. -/
theorem scan_noLead {lim : RxLimits} {r : Rx} (hr : r.phase = .seek) :
    ∀ (fuel : Nat) (bs : List Byte), (∀ y ∈ bs, y ≠ leadByte) → Rx.scan lim fuel bs r = (r, []) := by
  intro fuel
  induction fuel with
  | zero => intros; rfl
  | succ n ih =>
    intro bs h
    cases bs with
    | nil => rfl
    | cons b bs =>
      have hb : b ≠ leadByte := h b (by simp)
      simp [Rx.scan, Rx.feed, hr, hb, ih bs (fun y hy => h y (by simp [hy]))]

/-- A byte that starts no rescan. -/
theorem take_plain {lim : RxLimits} {now gap : Nat} {b : Byte} {r q : Rx} {evs : List RxEvent}
    (h : (r.heard now gap).feed lim b = (q, evs, [])) : Rx.take lim now gap b r = (q, evs) := by
  have hf : ∃ k, r.fuel = k + 2 := ⟨r.fuel - 2, by
    have : 2 * 2 ≤ r.fuel := Nat.mul_le_mul (Nat.le_add_left 2 _) (Nat.le_add_left 2 _)
    omega⟩
  obtain ⟨k, hk⟩ := hf
  unfold Rx.take
  rw [hk]
  change Rx.scan lim (k + 1 + 1) [b] (r.heard now gap) = _
  simp [Rx.scan, h]

/-- A byte that gives an envelope up, with no lead byte among those scanned again. -/
theorem take_givenUp {lim : RxLimits} {now gap : Nat} {b : Byte} {r q : Rx} {evs : List RxEvent} {bs : List Byte}
    (h : (r.heard now gap).feed lim b = (q, evs, bs)) (hq : q.phase = .seek) (hb : ∀ y ∈ bs, y ≠ leadByte) :
    Rx.take lim now gap b r = (q, evs) := by
  have hf : ∃ k, r.fuel = k + 1 := ⟨r.fuel - 1, by
    have : 2 * 2 ≤ r.fuel := Nat.mul_le_mul (Nat.le_add_left 2 _) (Nat.le_add_left 2 _)
    omega⟩
  obtain ⟨k, hk⟩ := hf
  unfold Rx.take
  rw [hk]
  change Rx.scan lim (k + 1) [b] (r.heard now gap) = _
  simp [Rx.scan, h, scan_noLead hq k bs hb]

variable {lim : RxLimits} {now gap : Nat} {b : Byte} {r : Rx}

theorem take_lead (hp : r.phase = .seek) (hb : b = leadByte) :
    Rx.take lim now gap b r = (⟨.header, [b], now, gap⟩, []) :=
  take_plain (by simp [Rx.feed, Rx.heard, hp, hb])

theorem take_noise (hp : r.phase = .seek) (hb : b ≠ leadByte) : Rx.take lim now gap b r = (r.heard now gap, []) :=
  take_plain (by simp [Rx.feed, Rx.heard, hp, hb])

theorem take_headerByte (hp : r.phase = .header) (hl : (r.retained ++ [b]).length < 5) :
    Rx.take lim now gap b r = (⟨.header, r.retained ++ [b], now, gap⟩, []) :=
  take_plain (by simp only [Rx.feed, Rx.heard, hp, hl, if_true])

theorem take_tooLong (hp : r.phase = .header) (hl : (r.retained ++ [b]).length = 5)
    (hn : lim.limit < field (r.retained ++ [b]) 2 3) (hb : ∀ y ∈ (r.retained ++ [b]).tail, y ≠ leadByte) :
    Rx.take lim now gap b r = ((r.heard now gap).hunt, [.tooLong]) := by
  refine take_givenUp (bs := (r.retained ++ [b]).tail) ?_ rfl hb
  have : ¬ (r.retained ++ [b]).length < 5 := by omega
  simp only [Rx.feed, Rx.heard, hp, this, if_false, Rx.header, hn, if_true]

theorem take_wrongKind (hp : r.phase = .header) (hl : (r.retained ++ [b]).length = 5)
    (hn : field (r.retained ++ [b]) 2 3 ≤ lim.limit) (hk : lim.kinds.contains (byteAt (r.retained ++ [b]) 1) = false) :
    Rx.take lim now gap b r = (⟨.skip (field (r.retained ++ [b]) 2 3 + 2), [], now, gap⟩, [.wrongKind]) := by
  refine take_plain ?_
  have h1 : ¬ (r.retained ++ [b]).length < 5 := by omega
  have h2 : ¬ lim.limit < field (r.retained ++ [b]) 2 3 := by omega
  simp only [Rx.feed, Rx.heard, hp, h1, if_false, Rx.header, h2, hk, Bool.false_eq_true]

theorem take_started (hp : r.phase = .header) (hl : (r.retained ++ [b]).length = 5)
    (hn : field (r.retained ++ [b]) 2 3 ≤ lim.limit) (hk : lim.kinds.contains (byteAt (r.retained ++ [b]) 1) = true) :
    Rx.take lim now gap b r = (⟨.body (field (r.retained ++ [b]) 2 3), r.retained ++ [b], now, gap⟩,
      [.started (field (r.retained ++ [b]) 2 3)]) := by
  refine take_plain ?_
  have h1 : ¬ (r.retained ++ [b]).length < 5 := by omega
  have h2 : ¬ lim.limit < field (r.retained ++ [b]) 2 3 := by omega
  simp only [Rx.feed, Rx.heard, hp, h1, if_false, Rx.header, h2, hk, if_true]

theorem take_bodyByte {n : Nat} (hp : r.phase = .body n) (hl : (r.retained ++ [b]).length ≤ 5 + n) :
    Rx.take lim now gap b r = (⟨.body n, r.retained ++ [b], now, gap⟩, [.bodyByte b]) :=
  take_plain (by simp only [Rx.feed, Rx.heard, hp, hl, if_true])

theorem take_checkByte {n : Nat} (hp : r.phase = .body n) (hl : (r.retained ++ [b]).length = 6 + n) :
    Rx.take lim now gap b r = (⟨.body n, r.retained ++ [b], now, gap⟩, []) := by
  refine take_plain ?_
  have h1 : ¬ (r.retained ++ [b]).length ≤ 5 + n := by omega
  have h2 : (r.retained ++ [b]).length < 7 + n := by omega
  simp only [Rx.feed, Rx.heard, hp, h1, h2, if_false, if_true]

theorem take_whole {n : Nat} (hp : r.phase = .body n) (hl : (r.retained ++ [b]).length = 7 + n)
    (hc : checkGood n (r.retained ++ [b])) :
    Rx.take lim now gap b r = ((r.heard now gap).hunt, [.whole (byteAt (r.retained ++ [b]) 1)
      ((((r.retained ++ [b]).drop 1).take (4 + n)).drop 4)]) := by
  refine take_plain ?_
  have h1 : ¬ (r.retained ++ [b]).length ≤ 5 + n := by omega
  have h2 : ¬ (r.retained ++ [b]).length < 7 + n := by omega
  unfold checkGood at hc
  simp only [Rx.feed, Rx.heard, hp, h1, h2, if_false, Rx.finish, hc, if_true]

theorem take_badCheck {n : Nat} (hp : r.phase = .body n) (hl : (r.retained ++ [b]).length = 7 + n)
    (hc : ¬ checkGood n (r.retained ++ [b])) (hb : ∀ y ∈ (r.retained ++ [b]).tail, y ≠ leadByte) :
    Rx.take lim now gap b r = ((r.heard now gap).hunt, [.badCheck]) := by
  refine take_givenUp (bs := (r.retained ++ [b]).tail) ?_ rfl hb
  have h1 : ¬ (r.retained ++ [b]).length ≤ 5 + n := by omega
  have h2 : ¬ (r.retained ++ [b]).length < 7 + n := by omega
  unfold checkGood at hc
  simp only [Rx.feed, Rx.heard, hp, h1, h2, if_false, Rx.finish, hc]

theorem take_skipOn {n : Nat} (hp : r.phase = .skip n) (hn : 1 < n) :
    Rx.take lim now gap b r = (⟨.skip (n - 1), r.retained, now, gap⟩, []) := by
  refine take_plain ?_
  have h1 : ¬ n ≤ 1 := by omega
  simp only [Rx.feed, Rx.heard, hp, h1, if_false]

theorem take_skipEnd {n : Nat} (hp : r.phase = .skip n) (hn : n ≤ 1) :
    Rx.take lim now gap b r = ((r.heard now gap).hunt, []) :=
  take_plain (by simp only [Rx.feed, Rx.heard, hp, hn, if_true])

/-- The length of the body a whole envelope brings. -/
theorem whole_length {n : Nat} {bs : List Byte} (h : bs.length = 7 + n) : (((bs.drop 1).take (4 + n)).drop 4).length = n := by
  simp only [List.length_drop, List.length_take, h]
  omega

/-- A field of the body is a field of the envelope five bytes later. -/
theorem whole_drop (n k : Nat) (bs : List Byte) :
    (((bs.drop 1).take (4 + n)).drop 4).drop k = ((bs.drop (5 + k)).take (n - k)) := by
  rw [List.drop_drop, List.drop_take, List.drop_drop]
  congr 1
  · omega
  · congr 1
    omega

/-- A field of the body of a whole envelope. -/
theorem field_whole {n : Nat} (bs : List Byte) (off w : Nat) (h : off + w ≤ n) :
    field (((bs.drop 1).take (4 + n)).drop 4) off w = field bs (5 + off) w := by
  unfold field
  rw [whole_drop, List.take_take]
  congr 2
  omega

/-- A byte of the body of a whole envelope. -/
theorem byteAt_whole {n : Nat} (bs : List Byte) (k : Nat) (h : k < n) :
    byteAt (((bs.drop 1).take (4 + n)).drop 4) k = byteAt bs (5 + k) := by
  unfold byteAt
  simp only [List.getD_eq_getElem?_getD, List.getElem?_drop, List.getElem?_take]
  congr 1
  split
  · congr 1
    omega
  · omega

end Sys2Proof.Machine
end

