-- ==== Sys2Proof/Laws/Rescan.lean ====
section
/-! SUPPORT. The rescan of a given-up envelope (R109): the bytes after its lead byte are taken one after the other, as if
they arrived then. The steps a receiver is given are always enough. -/

namespace Sys2Proof.Machine

variable {lim : RxLimits}

/-- What one byte costs: nothing is scanned again, or all that was retained but the lead byte. -/
theorem feed_cost (b : Byte) (r : Rx) :
    ((r.feed lim b).2.2 = [] ∧ (r.feed lim b).1.retained.length ≤ r.retained.length + 1) ∨
      ((r.feed lim b).2.2.length = r.retained.length ∧ (r.feed lim b).1.retained = []) := by
  unfold Rx.feed
  cases r.phase with
  | seek => left; dsimp only; split <;> simp
  | header =>
    dsimp only
    split
    · left; simp
    · unfold Rx.header
      dsimp only
      split
      · right; simp [Rx.hunt]
      · split <;> left <;> simp
  | skip n => left; dsimp only; split <;> simp [Rx.hunt]
  | body n =>
    dsimp only
    split
    · left; simp
    · split
      · left; simp
      · unfold Rx.finish
        dsimp only
        split
        · left; simp [Rx.hunt]
        · right; simp [Rx.hunt]

/-- The gap timer's fields stay as bytes are scanned. -/
theorem feed_timer (b : Byte) (r : Rx) :
    (r.feed lim b).1.lastByteAt = r.lastByteAt ∧ (r.feed lim b).1.gapNs = r.gapNs := by
  unfold Rx.feed Rx.header Rx.finish
  cases r.phase <;> dsimp only <;> (repeat' split) <;> simp [Rx.hunt]

/-- The steps that are enough to take `k` bytes with `n` retained. -/
def scanCost (k n : Nat) : Nat := k + (k + n) * (k + n)

theorem scanCost_feed (b : Byte) (bs : List Byte) (r : Rx) :
    scanCost ((r.feed lim b).2.2 ++ bs).length (r.feed lim b).1.retained.length <
      scanCost (b :: bs).length r.retained.length := by
  unfold scanCost
  rcases feed_cost (lim := lim) b r with ⟨h1, h2⟩ | ⟨h1, h2⟩
  · rw [h1]
    simp only [List.nil_append, List.length_cons]
    have hm := Nat.mul_le_mul (show bs.length + (r.feed lim b).1.retained.length ≤ bs.length + 1 + r.retained.length by omega)
      (show bs.length + (r.feed lim b).1.retained.length ≤ bs.length + 1 + r.retained.length by omega)
    omega
  · rw [h2]
    simp only [List.length_append, h1, List.length_nil, List.length_cons, Nat.add_zero]
    have e : bs.length + 1 + r.retained.length = (r.retained.length + bs.length) + 1 := by omega
    rw [e]
    generalize r.retained.length + bs.length = n
    rw [Nat.add_mul, Nat.mul_add]
    omega

/-- More steps than enough change nothing. -/
theorem scan_fuel : ∀ (f g : Nat) (bs : List Byte) (r : Rx), scanCost bs.length r.retained.length ≤ f →
    scanCost bs.length r.retained.length ≤ g → Rx.scan lim f bs r = Rx.scan lim g bs r := by
  intro f
  induction f with
  | zero =>
    intro g bs r hf _
    cases bs with
    | nil => cases g <;> rfl
    | cons b bs => simp [scanCost] at hf
  | succ n ih =>
    intro g bs r hf hg
    cases bs with
    | nil => cases g <;> rfl
    | cons b bs =>
      have hc := scanCost_feed (lim := lim) b bs r
      cases g with
      | zero => omega
      | succ m =>
        simp only [Rx.scan]
        rw [ih m _ _ (by omega) (by omega)]

/-- What is retained after a scan is at most what was there. -/
theorem scan_retained : ∀ (f : Nat) (bs : List Byte) (r : Rx),
    (Rx.scan lim f bs r).1.retained.length ≤ bs.length + r.retained.length := by
  intro f
  induction f with
  | zero => intro bs r; simp [Rx.scan]
  | succ n ih =>
    intro bs r
    cases bs with
    | nil => simp [Rx.scan]
    | cons b bs =>
      simp only [Rx.scan]
      refine Nat.le_trans (ih _ _) ?_
      rcases feed_cost (lim := lim) b r with ⟨h1, h2⟩ | ⟨h1, h2⟩
      · simp [h1]; omega
      · simp [h1, h2]; omega

theorem scan_timer : ∀ (f : Nat) (bs : List Byte) (r : Rx),
    (Rx.scan lim f bs r).1.lastByteAt = r.lastByteAt ∧ (Rx.scan lim f bs r).1.gapNs = r.gapNs := by
  intro f
  induction f with
  | zero => intro bs r; simp [Rx.scan]
  | succ n ih =>
    intro bs r
    cases bs with
    | nil => simp [Rx.scan]
    | cons b bs =>
      simp only [Rx.scan]
      obtain ⟨h1, h2⟩ := feed_timer (lim := lim) b r
      obtain ⟨h3, h4⟩ := ih ((r.feed lim b).2.2 ++ bs) (r.feed lim b).1
      exact ⟨h3.trans h1, h4.trans h2⟩

/-- Two runs of bytes are scanned one after the other. -/
theorem scan_append : ∀ (f : Nat) (bs cs : List Byte) (r : Rx), scanCost (bs ++ cs).length r.retained.length ≤ f →
    Rx.scan lim f (bs ++ cs) r =
      ((Rx.scan lim f cs (Rx.scan lim f bs r).1).1,
        (Rx.scan lim f bs r).2 ++ (Rx.scan lim f cs (Rx.scan lim f bs r).1).2) := by
  intro f
  induction f with
  | zero =>
    intro bs cs r hf
    simp [Rx.scan]
  | succ n ih =>
    intro bs cs r hf
    cases bs with
    | nil => simp [Rx.scan]
    | cons b bs =>
      have hc := scanCost_feed (lim := lim) b (bs ++ cs) r
      rw [← List.append_assoc] at hc
      simp only [List.cons_append] at hf
      have hn : scanCost (((r.feed lim b).2.2 ++ bs) ++ cs).length (r.feed lim b).1.retained.length ≤ n := by omega
      have hi := ih ((r.feed lim b).2.2 ++ bs) cs (r.feed lim b).1 hn
      simp only [List.cons_append, Rx.scan]
      rw [← List.append_assoc, hi]
      have hs := scan_retained (lim := lim) n ((r.feed lim b).2.2 ++ bs) (r.feed lim b).1
      have hle : scanCost cs.length (Rx.scan lim n ((r.feed lim b).2.2 ++ bs) (r.feed lim b).1).1.retained.length ≤ n := by
        refine Nat.le_trans ?_ hn
        unfold scanCost
        rw [List.length_append]
        have hm := Nat.mul_le_mul
          (show cs.length + (Rx.scan lim n ((r.feed lim b).2.2 ++ bs) (r.feed lim b).1).1.retained.length ≤
            ((r.feed lim b).2.2 ++ bs).length + cs.length + (r.feed lim b).1.retained.length by omega)
          (show cs.length + (Rx.scan lim n ((r.feed lim b).2.2 ++ bs) (r.feed lim b).1).1.retained.length ≤
            ((r.feed lim b).2.2 ++ bs).length + cs.length + (r.feed lim b).1.retained.length by omega)
        omega
      rw [scan_fuel n (n + 1) cs _ hle (by omega)]
      simp

/-- Bytes that arrive one after the other at one moment. -/
def Rx.takeAll (lim : RxLimits) (now gapNs : Nat) : List Byte → Rx → Rx × List RxEvent
  | [], r => (r, [])
  | b :: bs, r =>
    ((Rx.takeAll lim now gapNs bs (Rx.take lim now gapNs b r).1).1,
      (Rx.take lim now gapNs b r).2 ++ (Rx.takeAll lim now gapNs bs (Rx.take lim now gapNs b r).1).2)

theorem take_eq_scan {now gap : Nat} (b : Byte) (r : Rx) (f : Nat) (hf : scanCost 1 r.retained.length ≤ f) :
    Rx.take lim now gap b r = Rx.scan lim f [b] (r.heard now gap) := by
  unfold Rx.take
  refine scan_fuel _ _ [b] (r.heard now gap) ?_ hf
  simp only [List.length_singleton, Rx.fuel, scanCost, Rx.heard]
  have e : r.retained.length + 2 = (1 + r.retained.length) + 1 := by omega
  rw [e]
  generalize 1 + r.retained.length = n
  rw [Nat.add_mul, Nat.mul_add]
  omega

theorem heard_same {now gap : Nat} {r : Rx} (h1 : r.lastByteAt = now) (h2 : r.gapNs = gap) : r.heard now gap = r := by
  cases r
  simp_all [Rx.heard]

/-- Bytes taken one by one are bytes scanned in one run. -/
theorem takeAll_eq_scan {now gap : Nat} : ∀ (bs : List Byte) (r : Rx) (f : Nat), r.lastByteAt = now → r.gapNs = gap →
    scanCost bs.length r.retained.length ≤ f → Rx.takeAll lim now gap bs r = Rx.scan lim f bs r := by
  intro bs
  induction bs with
  | nil => intro r f _ _ _; cases f <;> rfl
  | cons b bs ih =>
    intro r f h1 h2 hf
    have hone : scanCost 1 r.retained.length ≤ f := by
      refine Nat.le_trans ?_ hf
      unfold scanCost
      simp only [List.length_cons]
      have hm := Nat.mul_le_mul (show 1 + r.retained.length ≤ bs.length + 1 + r.retained.length by omega)
        (show 1 + r.retained.length ≤ bs.length + 1 + r.retained.length by omega)
      omega
    have ha := scan_append (lim := lim) f [b] bs r (by simpa using hf)
    have ht := take_eq_scan (lim := lim) (now := now) (gap := gap) b r f hone
    rw [heard_same h1 h2] at ht
    obtain ⟨g1, g2⟩ := scan_timer (lim := lim) f [b] r
    have hr := scan_retained (lim := lim) f [b] r
    have hrest : scanCost bs.length (Rx.scan lim f [b] r).1.retained.length ≤ f := by
      refine Nat.le_trans ?_ hf
      unfold scanCost
      simp only [List.length_cons, List.length_nil] at hr ⊢
      have hm := Nat.mul_le_mul
        (show bs.length + (Rx.scan lim f [b] r).1.retained.length ≤ bs.length + 1 + r.retained.length by omega)
        (show bs.length + (Rx.scan lim f [b] r).1.retained.length ≤ bs.length + 1 + r.retained.length by omega)
      omega
    simp only [Rx.takeAll, ht]
    rw [ih _ f (g1.trans h1) (g2.trans h2) hrest]
    rw [show b :: bs = [b] ++ bs from rfl, ha]

/-- A byte that gives an envelope up: what it does itself, and then every byte scanned again, taken as it arrives. -/
theorem take_rescan {now gap : Nat} {b : Byte} {r q : Rx} {evs : List RxEvent} {bs : List Byte}
    (h : (r.heard now gap).feed lim b = (q, evs, bs)) :
    Rx.take lim now gap b r = ((Rx.takeAll lim now gap bs q).1, evs ++ (Rx.takeAll lim now gap bs q).2) := by
  have hc := scanCost_feed (lim := lim) b [] (r.heard now gap)
  rw [h] at hc
  simp only [List.append_nil, List.length_singleton] at hc
  obtain ⟨g1, g2⟩ := feed_timer (lim := lim) b (r.heard now gap)
  rw [h] at g1 g2
  replace g1 : q.lastByteAt = now := g1
  replace g2 : q.gapNs = gap := g2
  rw [takeAll_eq_scan bs q (scanCost 1 r.retained.length) g1 g2 (by simpa [Rx.heard] using Nat.le_of_lt hc)]
  rw [take_eq_scan b r (scanCost 1 r.retained.length + 1) (by omega)]
  simp only [Rx.scan, h, List.append_nil]

end Sys2Proof.Machine
end

