-- ==== Sys2Proof/Laws/Time.lean ====
section
/-! SUPPORT. What the shared operations of the Time Base come to: deltas and their raise, a jump, a measurement, a change of
selection, and the entry to HOLDOVER. -/

namespace Sys2Proof.Machine

/-! ### One raise seen from parts that agree in the Attention Unit and the pins -/

theorem Raised.before {c : Cause} {p p' q : Part} (ha : p'.attention = p.attention) (hp : p'.pins = p.pins)
    (h : Raised c p' q) : Raised c p q := by
  obtain ⟨h1, h2, h3, h4⟩ := h
  refine ⟨ha ▸ h1, ha ▸ h2, ?_, ?_⟩
  · rw [h3]
    simp [Part.handsNotice, ha, hp]
  · rw [h4]
    simp [ha]

theorem Raised.after {c : Cause} {p q q' : Part} (ha : q'.attention = q.attention) (hp : q'.pins = q.pins)
    (h : Raised c p q) : Raised c p q' := by
  obtain ⟨h1, h2, h3, h4⟩ := h
  refine ⟨ha ▸ h1, ha ▸ h2, ha ▸ h3, ?_⟩
  rw [ha, h4]
  simp [attnLevel, ha, hp]

/-- A raise on a part that has been changed outside the Attention Unit and the pins. -/
theorem raise_raised_from (c : Cause) {p p' : Part} (ha : p'.attention = p.attention) (hp : p'.pins = p.pins) :
    Raised c p (raise c p') := (raise_raised c p').before ha hp

/-- The cause raised again by an operation that changes nothing else of the Attention Unit or the pins first. -/
theorem Raised.again_from {c : Cause} {p q q' : Part} (ha : q'.attention = q.attention) (hp : q'.pins = q.pins)
    (h : Raised c p q) : Raised c p (raise c q') := (h.after ha hp).again

/-! ### Deltas -/

@[simp] theorem setTimeDelta_timeBase (f : TimeDeltas → TimeDeltas) (p : Part) :
    (setTimeDelta f p).timeBase = { p.timeBase with deltas := f p.timeBase.deltas } := by
  unfold setTimeDelta
  simp

theorem setTimeDelta_raised (f : TimeDeltas → TimeDeltas) {p p' : Part} (ha : p'.attention = p.attention)
    (hp : p'.pins = p.pins) : Raised .time p (setTimeDelta f p') := by
  unfold setTimeDelta
  exact raise_raised_from .time (by simp [ha]) (by simp [hp])

theorem setTimeDelta_again (f : TimeDeltas → TimeDeltas) {p q q' : Part} (ha : q'.attention = q.attention)
    (hp : q'.pins = q.pins) (h : Raised .time p q) : Raised .time p (setTimeDelta f q') := by
  unfold setTimeDelta
  exact h.again_from (by simp [ha]) (by simp [hp])

theorem setTimeDelta_frame (f : TimeDeltas → TimeDeltas) (p : Part) :
    setTimeDelta f p = { p with
      timeBase := { p.timeBase with deltas := f p.timeBase.deltas }
      control := (setTimeDelta f p).control
      attention := (setTimeDelta f p).attention } := by
  unfold setTimeDelta
  rw [raise_frame]
  rfl

@[simp] theorem portChanged_timeBase (r : RefPort) (p : Part) :
    (portChanged r p).timeBase = { p.timeBase with deltas := p.timeBase.deltas.port r } := by
  cases r <;> simp [portChanged, TimeDeltas.port]

theorem portChanged_raised (r : RefPort) {p p' : Part} (ha : p'.attention = p.attention) (hp : p'.pins = p.pins) :
    Raised .time p (portChanged r p') := by
  cases r
  · rw [portChanged]
    exact setTimeDelta_raised _ ha hp
  · rw [portChanged]
    exact setTimeDelta_raised _ ha hp

theorem portChanged_frame (r : RefPort) (p : Part) :
    portChanged r p = { p with
      timeBase := { p.timeBase with deltas := p.timeBase.deltas.port r }
      control := (portChanged r p).control
      attention := (portChanged r p).attention } := by
  cases r
  · simp only [portChanged, TimeDeltas.port]
    exact setTimeDelta_frame _ p
  · simp only [portChanged, TimeDeltas.port]
    exact setTimeDelta_frame _ p

@[simp] theorem stateChanged_timeBase (p : Part) :
    (stateChanged p).timeBase = { p.timeBase with deltas := { p.timeBase.deltas with state := true } } := by
  simp [stateChanged]

theorem stateChanged_frame (p : Part) :
    stateChanged p = { p with
      timeBase := { p.timeBase with deltas := { p.timeBase.deltas with state := true } }
      control := (stateChanged p).control
      attention := (stateChanged p).attention } := by
  simp only [stateChanged]
  exact setTimeDelta_frame _ p

/-! ### Ports -/

@[simp] theorem onPort_const (r : RefPort) (f : Port → Port) (p : Part) :
    p.onPort r (fun _ => f (p.port r)) = p.onPort r f := by
  cases r <;> rfl

@[simp] theorem portChanged_port (r q : RefPort) (p : Part) : (portChanged r p).port q = p.port q := by
  cases q <;> simp [Part.port]

@[simp] theorem stateChanged_port (q : RefPort) (p : Part) : (stateChanged p).port q = p.port q := by
  cases q <;> simp [Part.port]

@[simp] theorem onTimeBase_port (f : TimeBase → TimeBase) (q : RefPort) (p : Part) :
    (p.onTimeBase f).port q = p.port q := by
  cases q <;> rfl

/-! ### A jump and a measurement -/

@[simp] theorem jump_state (n : Nat) (t : TimeBase) : (TimeBase.jump n t).state = t.state := rfl
@[simp] theorem jump_partTime (n : Nat) (t : TimeBase) : (TimeBase.jump n t).partTime = some (PartTime.ofNs n) := rfl
@[simp] theorem jump_selected (n : Nat) (t : TimeBase) : (TimeBase.jump n t).selected = t.selected := rfl
@[simp] theorem jump_offset (n : Nat) (t : TimeBase) : (TimeBase.jump n t).offset = t.offset := rfl
@[simp] theorem jump_slew (n : Nat) (t : TimeBase) : (TimeBase.jump n t).slew = 0 := rfl
@[simp] theorem jump_slewing (n : Nat) (t : TimeBase) : (TimeBase.jump n t).slewing = false := rfl
@[simp] theorem jump_holdoverSeconds (n : Nat) (t : TimeBase) : (TimeBase.jump n t).holdoverSeconds = t.holdoverSeconds := rfl
@[simp] theorem jump_holdoverEntry (n : Nat) (t : TimeBase) : (TimeBase.jump n t).holdoverEntry = t.holdoverEntry := rfl
@[simp] theorem jump_deltas (n : Nat) (t : TimeBase) : (TimeBase.jump n t).deltas = t.deltas := rfl
@[simp] theorem jump_cfg (n : Nat) (t : TimeBase) : (TimeBase.jump n t).cfg = t.cfg := rfl

/-- What a step leaves in the Time Base, whatever the engine does with it. -/
theorem stepTo_timeBase (old : PartTime) (n : Nat) (p : Part) :
    (stepTo old n p).timeBase =
      { TimeBase.jump n p.timeBase with deltas := { p.timeBase.deltas with stepped := true } } := by
  have h : (jumpTo n p).timeBase =
      { TimeBase.jump n p.timeBase with deltas := { p.timeBase.deltas with stepped := true } } := by
    rw [jumpTo, setTimeDelta_timeBase, onTimeBase_timeBase, jump_deltas]
  unfold stepTo
  split
  · rw [takeForwardStep_timeBase, h]
  · exact h

theorem takeOffset_far {t : PartTime} {n : Nat} {o : Int} {p : Part} (h : p.timeBase.beyond o = true) :
    takeOffset t n o p = stepTo t n (p.onTimeBase (fun tb => { tb with offset := some o })) := by
  unfold takeOffset
  rw [if_pos h]

/-- An offset within the threshold changes the Time Base alone. -/
theorem takeOffset_near {t : PartTime} {n : Nat} {o : Int} {p : Part} (h : p.timeBase.beyond o = false) :
    takeOffset t n o p =
      (p.onTimeBase (fun tb => { tb with offset := some o })).onTimeBase (TimeBase.slewBy o) := by
  unfold takeOffset
  rw [if_neg (by simp [h])]

/-- A measured offset beyond the threshold is a jump. -/
theorem takeOffset_far_timeBase {t : PartTime} {n : Nat} {o : Int} {p : Part} (h : p.timeBase.beyond o = true) :
    (takeOffset t n o p).timeBase = { TimeBase.jump n p.timeBase with
      offset := some o, deltas := { p.timeBase.deltas with stepped := true } } := by
  rw [takeOffset_far h, stepTo_timeBase, onTimeBase_timeBase]
  simp only [TimeBase.jump]

/-- A measured offset within the threshold becomes the slew remaining. -/
theorem takeOffset_near_timeBase {t : PartTime} {n : Nat} {o : Int} {p : Part} (h : p.timeBase.beyond o = false) :
    (takeOffset t n o p).timeBase =
      { p.timeBase with offset := some o, slew := o * 20000, slewing := decide (o ≠ 0) } := by
  rw [takeOffset_near h]
  simp only [onTimeBase_timeBase, TimeBase.slewBy, slewUnits]

/-- A measurement, where part time and the port's reference time are there. -/
theorem measure_takes {r : RefPort} {p : Part} {t : PartTime} {k : PulseRecord} (h : p.timeBase.partTime = some t)
    (hk : (p.port r).pulseRecord = some k) :
    Machine.measure r p = takeOffset t (k.second * 1000000000 + (p.clock - k.moment))
      ((t.ns : Int) - ((k.second * 1000000000 + (p.clock - k.moment) : Nat) : Int)) p := by
  unfold Machine.measure Port.refTime
  rw [h, hk]
  rfl

/-- A measurement that cannot be made changes nothing. -/
theorem measure_none {r : RefPort} {p : Part} (h : p.timeBase.partTime = none ∨ (p.port r).pulseRecord = none) :
    Machine.measure r p = p := by
  unfold Machine.measure Port.refTime
  rcases h with h | h <;> rw [h]
  cases p.timeBase.partTime <;> rfl

/-- What a measurement never changes in the Time Base. -/
theorem measure_keeps (r : RefPort) (p : Part) :
    (Machine.measure r p).timeBase.state = p.timeBase.state ∧
      (Machine.measure r p).timeBase.selected = p.timeBase.selected ∧
      (Machine.measure r p).timeBase.cfg = p.timeBase.cfg ∧
      (Machine.measure r p).timeBase.partTime.isSome = p.timeBase.partTime.isSome := by
  unfold Machine.measure
  split
  · rename_i t n ht hn
    cases h : p.timeBase.beyond ((t.ns : Int) - (n : Int))
    · rw [takeOffset_near_timeBase h]
      simp
    · rw [takeOffset_far_timeBase h]
      simp [ht]
  · exact ⟨rfl, rfl, rfl, rfl⟩

/-! ### Selection -/

theorem leaveIdle_engine (p : Part) :
    (leaveIdle p).engine =
      if p.engine.mode = .idle then { Engine.setStrobe p.timeBase.partTime p.engine with mode := .run } else p.engine := by
  unfold leaveIdle
  split <;> rfl

/-- Leaving UNSET on a reference that holds a pulse record. -/
theorem leaveUnset_timeBase {r : RefPort} {p : Part} {k : PulseRecord} (hk : (p.port r).pulseRecord = some k) :
    (leaveUnset r p).timeBase = { p.timeBase with
      state := .tracking
      partTime := some (PartTime.ofNs (k.second * 1000000000 + (p.clock - k.moment)))
      selected := some r
      offset := some 0
      slew := 0
      slewing := false
      deltas := { p.timeBase.deltas with state := true } } := by
  unfold leaveUnset Port.refTime
  rw [hk]
  simp only [Option.map_some, leaveIdle_timeBase, stateChanged_timeBase, onTimeBase_timeBase]
  rfl

theorem leaveUnset_raised {r : RefPort} {p : Part} {k : PulseRecord} (hk : (p.port r).pulseRecord = some k) :
    Raised .time p (leaveUnset r p) := by
  unfold leaveUnset Port.refTime
  rw [hk]
  simp only [Option.map_some]
  refine Raised.after (leaveIdle_attention _) (leaveIdle_pins _) ?_
  unfold stateChanged
  exact setTimeDelta_raised _ (by simp only [onTimeBase_attention]) (by simp only [onTimeBase_pins])

/-- The entry to HOLDOVER. -/
theorem enterHoldover_frame (p : Part) :
    enterHoldover p = { p with
      timeBase := { p.timeBase with
        state := .holdover
        holdoverSeconds := 0
        holdoverEntry := p.clock
        deltas := { p.timeBase.deltas with state := true } }
      control := (enterHoldover p).control
      attention := (enterHoldover p).attention } := by
  have h := stateChanged_frame (p.onTimeBase (fun tb =>
    { tb with state := .holdover, holdoverSeconds := 0, holdoverEntry := p.clock }))
  have e : enterHoldover p = stateChanged (p.onTimeBase (fun tb =>
    { tb with state := .holdover, holdoverSeconds := 0, holdoverEntry := p.clock })) := rfl
  rw [← e] at h
  generalize enterHoldover p = q at h ⊢
  simp only [Part.onTimeBase] at h
  exact h

/-- What a re-lock leaves, whatever the measurement finds. -/
theorem relock_keeps (r : RefPort) (p : Part) :
    (relock r p).timeBase.state = .tracking ∧ (relock r p).timeBase.selected = some r := by
  unfold relock
  have h := measure_keeps r (stateChanged (p.onTimeBase (fun tb => { tb with state := .tracking, selected := some r })))
  rw [h.1, h.2.1]
  simp

/-- What a change of the selected reference leaves, whatever the measurement finds. -/
theorem switchTo_keeps (r : RefPort) (p : Part) :
    (switchTo r p).timeBase.state = p.timeBase.state ∧ (switchTo r p).timeBase.selected = some r := by
  unfold switchTo
  have h := measure_keeps r (p.onTimeBase (fun tb => { tb with selected := some r }))
  rw [h.1, h.2.1]
  simp

/-! ### Pulses, case by case (R7) -/

theorem pulse_bad {r : RefPort} {p : Part} {w : BadReason} (h : (p.port r).state ≠ .silent)
    (hb : (p.port r).badReason p.timeBase.cfg.pulseTolerance p.clock = some w) :
    pulse r p = departed r (p.port r).state (p.onPort r (Port.badPulse p.clock w)) := by
  unfold pulse
  cases hs : (p.port r).state <;> simp_all

theorem pulse_good {r : RefPort} {p : Part} (h : (p.port r).state ≠ .silent)
    (hb : (p.port r).badReason p.timeBase.cfg.pulseTolerance p.clock = none) :
    pulse r p =
      (let q := p.onPort r (Port.goodPulse p.clock p.timeBase.cfg.qualifyCount)
      if (p.port r).state = .acquiring then if (q.port r).state = .qualified then gained r (portChanged r q) else q
      else if q.timeBase.state = .tracking ∧ q.timeBase.selected = some r then Machine.measure r q
      else q) := by
  unfold pulse
  cases hs : (p.port r).state <;> simp_all

/-- The good pulse that brings the good count to the qualify count. -/
theorem pulse_qualifies {r : RefPort} {p : Part} (h : (p.port r).state = .acquiring)
    (hb : (p.port r).badReason p.timeBase.cfg.pulseTolerance p.clock = none)
    (hq : p.timeBase.cfg.qualifyCount ≤ min ((p.port r).goodCount + 1) 16) :
    pulse r p = gained r (portChanged r (p.onPort r (Port.goodPulse p.clock p.timeBase.cfg.qualifyCount))) := by
  rw [pulse_good (by simp [h]) hb]
  simp only [onPort_port_same, h, if_true]
  rw [if_pos]
  have hq' : p.timeBase.cfg.qualifyCount ≤ (p.port r).goodCount + 1 ∧ p.timeBase.cfg.qualifyCount ≤ 16 := by omega
  simp [Port.goodPulse, h, hq']

end Sys2Proof.Machine
end

