-- ==== Sys2Proof/Tests/Slice0.lean ====
section
/-! SUPPORT. Tests on fixed values: the check of a command, the formats, one or two steps of the commands, and for every
statement with premises a state and operands that meet them, clause by clause. A few theorems are elaborated at once and not
beside the others, so that the kernel keeps up and few threads wait for it. -/

namespace Sys2Proof.Tests

open Sys2Proof Sys2Proof.Machine

/-! ### The check of a command -/

theorem test_wellFormed_last_label : (Instr.deadlineExpiry ⟨4294967295, 119⟩).wellFormed = true := by decide

theorem test_illFormed_second : (Instr.deadlineExpiry ⟨4294967296, 0⟩).wellFormed = false := by decide

theorem test_illFormed_tick : (Instr.deadlineExpiry ⟨0, 120⟩).wellFormed = false := by decide

/-! ### Formats -/

set_option Elab.async false in
theorem test_check_code : crc [0x31#8, 0x32#8, 0x33#8, 0x34#8, 0x35#8, 0x36#8, 0x37#8, 0x38#8, 0x39#8] = 0x29B1#16 := by decide +kernel

theorem test_flow_frame_is_seven_bytes : (flowEnvelope .hold).length = 7 := by decide

theorem test_numbers_are_most_significant_first : be 4 0x01020304 = [0x01#8, 0x02#8, 0x03#8, 0x04#8] := by decide

theorem test_signed_numbers : beInt 2 (-2) = [0xFF#8, 0xFE#8] := by decide

theorem test_no_word_spells_a_command : decodeTableWord 8 0 = none := rfl

/-! ### States to start from -/

/-- The part after reset, with a store of two free buffers so that a test need not look at 16,384. -/
def base : Part := { Part.reset with store := { Store.initial with freeList := [7, 8], lowMark := 0, lowestFree := 2 } }

def at_ (p : Part) : State := ⟨[], p⟩

def entry (code : Byte) (ps : List Byte) : RequestEntry := ⟨0x5A#8, code, ps, .executing⟩

/-- The executor runs a request. -/
def ask (code : Byte) (ps : List Byte) (p : Part) : Part := p.onControl (fun c => { c with queue := [entry code ps] })

/-- What a command makes of a part. -/
def after (i : Instr) (p : Part) : Part :=
  match exec i (at_ p) with
  | .next t => t.part
  | _ => p

/-- Part time is 100 s and 20 ms, on reference A; the strobe of tick 1 at 50 a second is due. -/
def timed : Part := { base with
  clock := 5000000000
  timeBase := { TimeBase.initial with
    state := .tracking, partTime := some ⟨100, 20000000, 0⟩, selected := some .A, offset := some 0 }
  portA := { Port.initial with
    state := .qualified, goodCount := 4, prevPulse := some 4000000000, lastAnnounced := some 100
    held := some ⟨101, true, 0⟩, pulseRecord := some ⟨100, 4000000000⟩ }
  engine := { Engine.initial 50 with mode := .run, strobe := some ⟨100, 1⟩ } }

/-- Stream 7 of rate 10 and layout 1, 0, 0, at index 3, ARMED. -/
def unit7 : Stream := Stream.registered 7 10 ⟨1, 0, 0⟩ 0

def withStream (x : Stream) (p : Part) : Part := p.onStreams (StreamTable.setSlot 3 ⟨some x, false⟩)

/-- The epoch of label 100, tick 0, awaiting stream 7. -/
def waiting7 : Epoch := ⟨⟨100, 0⟩, .opened, .strobe, [⟨3, 7, 0, false⟩], [], ⟨1, 0, 0, 0⟩, some 80⟩

def withEpochs (es : List Epoch) (p : Part) : Part := p.onEngine (fun g => { g with entries := es })

/-- Part time is 80 ms into second 100. -/
def at80 (p : Part) : Part := p.onTimeBase (fun t => { t with partTime := some ⟨100, 80000000, 0⟩ })

/-- A frame of stream 7: label 100, tick 0, one phasor. -/
def frame7 : List Byte :=
  be 4 7 ++ be 4 100 ++ be 2 0 ++ be 1 3 ++ be 2 1 ++ be 3 65536 ++ be 8 0 ++ be 8 5

/-- A frame waits on lane 2 in buffer 9. -/
def queued (body : List Byte) (p : Part) : Part :=
  (p.onStore (Store.setBuffer 9 ⟨.queued, body, []⟩)).onLane 2 (fun x => { x with queue := [⟨9, body.length⟩] })

/-- A receiver that has taken all of an envelope but its last byte, and that byte. -/
def almost (kind : Byte) (body : List Byte) : Rx := ⟨.body body.length, (envelope kind body).dropLast, 0, 0⟩

def lastOf (kind : Byte) (body : List Byte) : Byte := (envelope kind body).getLastD 0

/-- A receiver that has taken four bytes of a header. -/
def inHeader (kind : Byte) : Rx := ⟨.header, [leadByte, kind, 0x00#8, 0x00#8], 0, 0⟩

/-- A set record of stream 7, its frame in buffer 9. -/
def set7 : SetRecord :=
  ⟨⟨100, 0⟩, 50, [⟨3, 7, 9, 2, 0, false, false⟩], [], ⟨.complete, false, false, false, false, false⟩, .waiting⟩

def late7 : StragglerRecord := ⟨3, 7, ⟨100, 0⟩, 2, 5, 9, .waiting⟩

def filed9 (st : BufState) (p : Part) : Part := p.onStore (Store.setBuffer 9 ⟨st, frame7, []⟩)

/-! ### Commands -/

theorem test_powerOn_starts_go : (after (.powerOn Straps.low) base).lanes.a3.flowTx = some .go := by decide

theorem test_pin_samples_straps : (after (.pin ⟨true, 5, 2⟩) base).nominal = 60 := by decide

theorem test_resetNAssert : (after .resetNAssert base).pins.resetLow = true := by decide

theorem test_isolateAsserted_freezes : (after .isolateAsserted timed).engine.mode = .frozen := by decide

theorem test_isolateRemoved_runs : (after .isolateRemoved (after .isolateAsserted timed)).engine.mode = .run := by decide

theorem test_carrierChange_raises : (after (.carrierChange 1 true) base).attention.attn = true := by decide

theorem test_pulse_first : (after (.pulse .A) base).portA.state = .acquiring := by decide

theorem test_pulse_good : (after (.pulse .A) (timed.onTimeBase (fun t =>
    { t with partTime := some ⟨101, 0, 0⟩ }))).portA.goodSeconds = 1 := by decide

theorem test_strobe_opens : ((after .strobe (withStream { unit7 with rate := 50 } timed)).engine.entries.map Epoch.label) =
    [⟨100, 1⟩] := by decide

theorem test_strobe_releases_void : (after .strobe timed).engine.counters.released = 1 := by decide

theorem test_deadlineExpiry_counts_miss :
    ((after (.deadlineExpiry ⟨100, 0⟩) (withEpochs [waiting7] (at80 (withStream unit7 timed)))).stream 3).map
      (fun x => x.counters.misses) = some 1 := by decide

theorem test_sort_without_time : (after .sort (queued frame7 base)).sorter.discards.noTime = 1 := by decide

theorem test_laneHeader_claims :
    (after (.laneHeader 0 0x18#8) (base.onLane 0 (fun x => { x with rx := inHeader kindMeas }))).lanes.a0.claimed = some 7 := by
  decide

theorem test_laneFrameEnd_queues :
    (after (.laneFrameEnd 0 (lastOf kindMeas frame7)) (base.onLane 0 (fun x =>
      { x with rx := almost kindMeas frame7, claimed := some 7 }))).lanes.a0.queue = [⟨7, 32⟩] := by decide +kernel

theorem test_flowFrameEnd : (after (.flowFrameEnd 0) base).lanes.a0.flowTx = none := by decide

theorem test_sweepVerdict_retires :
    ((after (.sweepVerdict false) (base.onStore (fun s => { s with
      sweep := ⟨true, 16383, some 16383, 0, 0, 0, 0⟩ }))).store.sweep) = ⟨false, 16384, none, 1, 0, 1, 0⟩ := by decide

theorem test_pause : (after (.pause (lastOf kindPause [])) (timed.onEgress (fun e =>
    { e with rx := almost kindPause [] }))).egress.pausedAt = some 5000000000 := by decide +kernel

/-- A request that has just arrived waits; a request row or passing time finds it started; ISOLATE discards it (R168). -/
theorem test_requestArrival_waits :
    let p := after (.requestArrival (lastOf kindReq [0x01#8, 0x01#8])) (base.onControl (fun c =>
      { c with rx := almost kindReq [0x01#8, 0x01#8] }))
    p.control.queue = [⟨0x01#8, 0x01#8, [], .waiting⟩] ∧ p.settled.control.queue = [⟨0x01#8, 0x01#8, [], .executing⟩] ∧
      (after .identify p).control.inFlight.isSome = true ∧ (after .isolateAsserted p).control.queue = [] ∧
      (after .isolateAsserted p).control.unanswered = 1 := by decide +kernel

theorem test_identify_reply : ((after .identify (ask 0x01#8 [] base)).control.inFlight.map (fun m => m.envelope.drop 5)) =
    some ([0x5A#8, 0x01#8, 0x00#8, 0x0D#8, 0x7A#8, 0x05#8, 0x12#8, 0x01#8, 0x32#8, 0x00#8, 0x00#8, 0x00#8, 0x01#8, 0xC2#8,
      0x00#8, 0x00#8, 0x00#8, 0x00#8, 0x00#8, 0x00#8, 0x00#8, 0x00#8, 0x00#8, 0x00#8] ++
      crcBytes (covered kindReply ([0x5A#8, 0x01#8, 0x00#8, 0x0D#8, 0x7A#8, 0x05#8, 0x12#8, 0x01#8, 0x32#8, 0x00#8,
        0x00#8, 0x00#8, 0x01#8, 0xC2#8, 0x00#8, 0x00#8, 0x00#8, 0x00#8, 0x00#8, 0x00#8, 0x00#8, 0x00#8, 0x00#8,
        0x00#8]))) := by decide +kernel

theorem test_registerStream : (after .registerStream (ask 0x20#8
    (be 2 3 ++ be 4 7 ++ [0x0A#8, 0x01#8, 0x00#8, 0x00#8]) base)).stream 3 = some unit7 := by decide +kernel

theorem test_retireStream_with_references : ((after .retireStream (ask 0x24#8 [0x00#8, 0x03#8]
    (withStream { unit7 with refCount := 2 } base))).stream 3).map (fun x => x.state) = some .retiring := by decide

theorem test_configureAlignment_depth : ((after .configureAlignment (ask 0x30#8
    (be 1 100 ++ be 2 80 ++ be 2 250 ++ be 2 800 ++ be 2 2000 ++ be 2 1000 ++ be 1 8 ++ [0x00#8, 0x00#8])
    base)).control.inFlight.map (fun m => m.envelope.drop 5 |>.take 3)) = some [0x5A#8, 0x30#8, 0x0A#8] := by decide +kernel

theorem test_setAttentionMask : (after .setAttentionMask (ask 0x59#8 [0x01#8] base)).attention.mask =
    ⟨true, false, false, false, false, false⟩ := by decide

theorem test_injectFrame_queues : (after .injectFrame (ask 0x61#8 (be 1 1 ++ be 2 32 ++ frame7)
    (base.onLane 1 (fun x => { x with loopback := true })))).lanes.a1.queue = [⟨7, 32⟩] := by decide +kernel

theorem test_set_sizes : (memberEntry ⟨4, 1, 0, 0, 0, false, false⟩
      (some (be 13 0 ++ be 3 0x040201 ++ List.replicate 50 0x00#8))).length = 64 ∧
    (memberEntry ⟨30, 1, 0, 0, 0, false, false⟩ none).length = 22 := by decide +kernel

theorem test_step_idles : step (at_ { base with pins := { base.pins with resetLow := true } }) =
    .next (at_ (elapse { base with pins := { base.pins with resetLow := true } })) := rfl

/-! ### Premises that are met: the machine as a whole, resets and pins -/

theorem witness_EmptyQueue : dueEvent base = none ∧ base.timeBase.partTime = none ∧ dueEvent timed = some .strobe := by decide

theorem witness_EmptyQueue_slews :
    (timed.timeBase.partTime = some ⟨100, 20000000, 0⟩ ∧ 0 ≤ timed.timeBase.slew) ∧
    (let p := timed.onTimeBase (fun t => { t with slew := -1 }); p.timeBase.slew < 0 ∧ p.timeBase.partTime.isSome = true) ∧
    (let p := timed.onTimeBase (fun t => { t with partTime := some ⟨4294967295, 999999999, 0⟩ })
     p.timeBase.partTime = some ⟨4294967295, 999999999, 0⟩) := by decide

theorem witness_HeldReset : (after .resetNAssert timed).pins.resetLow = true ∧ Instr.sort.heeded = false ∧
    timed.pins.resetLow = false := by decide

theorem witness_Pin : base.store.wf = true ∧ timed.store.wf = true := by decide

theorem witness_RestartFull : (ask 0x02#8 [0x00#8] timed).Runs 0x02 (entry 0x02#8 [0x00#8]) ∧ timed.store.wf = true := by decide

theorem witness_RestartAlignment :
    let p := ask 0x02#8 [0x01#8] (withStream { unit7 with state := .stale } timed)
    p.Runs 0x02 (entry 0x02#8 [0x01#8]) ∧ p.streams.wf = true ∧ p.store.wf = true ∧
      p.stream 3 = some { unit7 with state := .stale } ∧ p.stream 4 = none := by decide

theorem witness_RestartAlignment_states :
    (withStream { unit7 with state := .retiring } timed).stream 3 = some { unit7 with state := .retiring } ∧
    (withStream { unit7 with state := .suspended } timed).stream 3 = some { unit7 with state := .suspended } := by decide

theorem witness_Straps : (ask 0x01#8 [] timed).Runs 0x01 (entry 0x01#8 []) := by decide

theorem witness_Isolate :
    let p := timed.onEgress (fun e =>
      { e with releaseQueue := [{ set7 with send := .sending }], inFlight := some ⟨.set, [leadByte]⟩ })
    let q := timed.onEgress (fun e =>
      { e with stragglers := [{ late7 with send := .sending }], inFlight := some ⟨.strag, [leadByte]⟩ })
    (timed.setIsolate true).pins.isolate = true ∧ timed.pins.isolate = false ∧ timed.pins.resetLow = false ∧
      timed.egress.inFlight = none ∧
      (p.egress.inFlight = some ⟨.set, [leadByte]⟩ ∧ p.egress.releaseQueue = { set7 with send := .sending } :: []) ∧
      (q.egress.inFlight = some ⟨.strag, [leadByte]⟩ ∧ q.egress.stragglers = { late7 with send := .sending } :: []) ∧
      (ask 0x01#8 [] timed).control.sends .entry = false := by decide

theorem witness_IsolateRemoved :
    let p := after .isolateAsserted timed
    p.pins.isolate = true ∧ p.pins.resetLow = false ∧ p.engine.mode = .frozen ∧ p.engine.strobe = some ⟨100, 1⟩ ∧
      p.timeBase.partTime = some ⟨100, 20000000, 0⟩ ∧
      p.labelsMissed ⟨100, 1⟩ (PartTime.firstLabel ⟨100, 20000000, 0⟩ p.fo) ≠ 0 ∧
      (timed.setIsolate true).engine.mode ≠ .frozen := by decide

theorem witness_Carrier :
    base.pins.carrier.get 1 ≠ true ∧ base.pins.carrier.get 1 = false ∧
      ((base.onLane 1 (fun x => { x with loopback := true })).lane 1).loopback = true ∧
      (base.lane 1).loopback = false ∧ (base.lane 1).deltas.any = false ∧ base.handsNotice .lane = true ∧
      (base.onAttention (fun a => { a with gateOpen := false })).handsNotice .lane = false ∧
      ((base.onLane 1 (fun x => { x with deltas := ⟨true, false, false⟩ })).lane 1).deltas.any = true := by decide

/-! ### Reference Ports and Time Base -/

theorem witness_Pulse_tests :
    let x : Port := { Port.initial with
      state := .acquiring, prevPulse := some 0, held := some ⟨101, true, 0⟩, lastAnnounced := some 100 }
    x.badReason 25 1000025001 = some .interval ∧ x.badReason 25 999974999 = some .interval ∧
      x.badReason 25 1000025000 = none ∧ x.badReason 25 999975000 = none ∧
      { x with held := none }.badReason 25 1000000000 = some .noMessage ∧
      { x with lastAnnounced := none }.badReason 25 1000000000 = some .sequence ∧
      { x with lastAnnounced := some 101 }.badReason 25 1000000000 = some .sequence ∧
      { x with held := some ⟨101, false, 0⟩ }.badReason 25 1000000000 = some .unlocked := by decide

theorem witness_Pulse_port :
    base.portA.state = .silent ∧ timed.portA.state ≠ .silent ∧
      timed.portA.badReason timed.timeBase.cfg.pulseTolerance timed.clock = none ∧ timed.portA.held = some ⟨101, true, 0⟩ ∧
      ({ timed with clock := 5000025001 }.portA.badReason 25 5000025001) = some .interval := by decide

/-- Port A is ACQUIRING with a good count of `g`, a good pulse due now. -/
def acquiring (g : Nat) (p : Part) : Part := p.onPort .A (fun x => { x with state := .acquiring, goodCount := g })

theorem witness_Pulse_qualifies :
    let unset := acquiring 3 (timed.onTimeBase (fun t => { t with state := .unset, partTime := none, selected := none }))
    let held := acquiring 3 (timed.onTimeBase (fun t => { t with state := .holdover }))
    let tracking := acquiring 3 (timed.onTimeBase (fun t => { t with selected := some .B }))
    let due := fun (p : Part) => p.portA.state = .acquiring ∧
      p.portA.badReason p.timeBase.cfg.pulseTolerance p.clock = none ∧
      p.timeBase.cfg.qualifyCount ≤ min (p.portA.goodCount + 1) 16 ∧ p.portA.held = some ⟨101, true, 0⟩
    due unset ∧ due held ∧ due tracking ∧ unset.timeBase.state = .unset ∧ unset.timeBase.cfg.failover = true ∧
      held.timeBase.state = .holdover ∧ held.timeBase.partTime = some ⟨100, 20000000, 0⟩ ∧ tracking.timeBase.state = .tracking ∧
      min ((acquiring 2 timed).portA.goodCount + 1) 16 < (acquiring 2 timed).timeBase.cfg.qualifyCount ∧
      ({ acquiring 2 timed with clock := 0 }.portA.badReason 25 0).isSome = true ∧
      (let q := unset.onTimeBase (fun t => { t with cfg := { t.cfg with failover := false, preferred := .B } })
       due q ∧ q.timeBase.cfg.failover = false ∧ q.timeBase.cfg.preferred ≠ .A) := by decide

theorem witness_Pulse_qualified :
    let lone := { timed with clock := 0 }
    let both := { timed with clock := 0, portB := { Port.initial with
      state := .qualified, goodCount := 4, pulseRecord := some ⟨100, 0⟩ } }
    (lone.portA.state = .qualified ∧ (lone.portA.badReason lone.timeBase.cfg.pulseTolerance lone.clock).isSome = true ∧
      lone.timeBase.state = .tracking ∧ lone.timeBase.selected = some .A ∧ (lone.port RefPort.A.other).state ≠ .qualified) ∧
    (both.timeBase.cfg.failover = true ∧ (both.port RefPort.A.other).state = .qualified ∧
      (both.port RefPort.A.other).pulseRecord = some ⟨100, 0⟩ ∧ both.timeBase.partTime = some ⟨100, 20000000, 0⟩) ∧
    (¬ ((timed.onTimeBase (fun t => { t with selected := some .B })).timeBase.state = .tracking ∧
      (timed.onTimeBase (fun t => { t with selected := some .B })).timeBase.selected = some RefPort.A)) ∧
    (let o : Int := ((PartTime.ns ⟨100, 20000000, 0⟩ : Nat) : Int) - (101 * 1000000000 : Nat)
     timed.timeBase.cfg.stepThreshold * 1000 < o.natAbs) ∧
    (let o : Int := ((PartTime.ns ⟨101, 1000000, 0⟩ : Nat) : Int) - (101 * 1000000000 : Nat)
     o.natAbs ≤ timed.timeBase.cfg.stepThreshold * 1000) := by decide

theorem witness_PortExpiries :
    base.portA.prevPulse = none ∧ timed.portA.prevPulse = some 4000000000 ∧ timed.clock < 4000000000 + 1500000000 ∧
      timed.clock < 4000000000 + 3000000000 ∧ timed.portA.missingTaken = false ∧
      4000000000 + 1500000000 ≤ ({ timed with clock := 5500000000 } : Part).clock ∧
      (acquiring 0 { timed with clock := 7000000000 }).portA.state = .acquiring ∧
      4000000000 + 3000000000 ≤ (acquiring 0 { timed with clock := 7000000000 }).clock := by decide

set_option Elab.async false in
theorem witness_TimeLine :
    let body : List Byte := [0x00#8, 0x00#8, 0x00#8, 0x65#8, 0x01#8, 0x03#8]
    let whole := (almost kindTime body).retained ++ [lastOf kindTime body]
    let short := (almost kindTime [0x00#8]).retained ++ [lastOf kindTime [0x00#8]]
    let bad := (almost kindTime []).retained ++ [0x00#8]
    (whole.length = 13 ∧ checkGood 6 whole) ∧ (short.length = 8 ∧ checkGood 1 short) ∧
      (bad.length = 7 ∧ ¬ checkGood 0 bad ∧ ∀ y ∈ bad.tail, y ≠ leadByte) ∧
      (let ret := (inHeader kindTime).retained ++ [0x07#8]
       ret.length = 5 ∧ 6 < field ret 2 3 ∧ ∀ y ∈ ret.tail, y ≠ leadByte) ∧
      (let ret := (inHeader kindReq).retained ++ [0x06#8]
       ret.length = 5 ∧ field ret 2 3 ≤ 6 ∧ byteAt ret 1 ≠ kindTime) ∧
      (let ret := (inHeader kindTime).retained ++ [0x06#8]
       ret.length = 5 ∧ field ret 2 3 ≤ 6 ∧ byteAt ret 1 = kindTime) ∧
      Rx.idle.phase = .seek ∧ (almost kindTime body).phase = .body 6 := by decide +kernel

theorem witness_GapExpiries :
    let r : Rx := ⟨.header, [leadByte], 0, 2000000⟩
    r.gapDue 2000001 = true ∧ r.gapDue 2000000 = false ∧ r.skipping = false ∧ r.receiving = false ∧
      (⟨.skip 3, [], 0, 2000000⟩ : Rx).gapDue 2000001 = true ∧ (⟨.skip 3, [], 0, 2000000⟩ : Rx).skipping = true ∧
      (⟨.body 24, [], 0, 2000000⟩ : Rx).gapDue 2000001 = true ∧ (⟨.body 24, [], 0, 2000000⟩ : Rx).receiving = true := by
  decide

theorem witness_Holdover :
    let b : TimeBase := { timed.timeBase with state := .holdover, holdoverSeconds := 600 }
    let clock := 601000000000
    (b.state = .holdover ∧ b.holdoverSeconds < counterMax ∧ b.holdoverEntry + (b.holdoverSeconds + 1) * 1000000000 ≤ clock) ∧
      b.cfg.holdoverLimit < b.holdoverSeconds + 1 ∧
      { b with holdoverSeconds := 599 }.holdoverSeconds + 1 ≤ b.cfg.holdoverLimit ∧
      { b with slewing := true }.slew = 0 := by decide

theorem witness_ConfigureReference :
    let ps := [0x04#8] ++ be 2 25 ++ be 4 600 ++ be 4 1000 ++ [0x01#8, 0x01#8]
    let p := ask 0x11#8 ps timed
    p.Runs 0x11 (entry 0x11#8 ps) ∧ ps.length = 13 ∧ field ps 0 1 = 4 ∧ field ps 1 2 = 25 ∧ field ps 3 4 = 600 ∧
      field ps 7 4 = 1000 ∧ (byteAt ps 11).toNat ≤ 1 ∧ (byteAt ps 12).toNat ≤ 1 ∧ p.timeBase.state = .tracking := by decide

theorem witness_ConfigureReference_states :
    let held := (timed.onPort .A (fun x => { x with state := .acquiring, goodCount := 0 })).onTimeBase
      (fun t => { t with state := .holdover, holdoverSeconds := 7 })
    held.timeBase.state = .holdover ∧ held.portA.state ≠ .qualified ∧ held.portB.state ≠ .qualified ∧
      (timed.onTimeBase (fun t => { t with state := .expired })).timeBase.state = .expired ∧ timed.portA.state = .qualified ∧
      base.timeBase.state = .unset ∧ timed.portA.pulseRecord.isSome = true := by decide

/-- The parameters 4, 25, 10 s, 1,000, with the preferred reference and automatic failover as given. -/
def refParams (preferred failover : Byte) : List Byte := [0x04#8] ++ be 2 25 ++ be 4 10 ++ be 4 1000 ++ [preferred, failover]

/-- Reference B has the good count to be promoted, and reference A is not QUALIFIED; the state of the Time Base, its selected
reference and its holdover seconds are as given. -/
def onlyB (st : TimeState) (sel : Option RefPort) (held : Nat) (p : Part) : Part :=
  ((p.onPort .A (fun x => { x with state := .acquiring, goodCount := 0, pulseRecord := none })).onPort .B (fun x =>
    { x with state := .acquiring, goodCount := 4, pulseRecord := some ⟨100, 4000000000⟩ })).onTimeBase
      (fun t => { t with state := st, selected := sel, holdoverSeconds := held, partTime := some ⟨101, 0, 0⟩ })

/-- With automatic failover on, or for the reference that was lost, the one that is not preferred is taken (R12, R15, R23). -/
theorem witness_ConfigureReference_other :
    let go := fun (k : Byte) (p : Part) => after .configureReference (ask 0x11#8 (refParams 0x00#8 k) p)
    let p := onlyB .holdover (some .A) 7 timed
    let q := onlyB .holdover (some .B) 7 timed
    let r := onlyB .unset none 0 { timed with engine := Engine.initial 50 }
    (refParams 0x00#8 0x01#8).length = 13 ∧ p.portB.state = .acquiring ∧ 4 ≤ p.portB.goodCount ∧
      p.portA.state ≠ .qualified ∧ ¬ (p.portA.state = .acquiring ∧ 4 ≤ p.portA.goodCount) ∧
      p.portB.pulseRecord = some ⟨100, 4000000000⟩ ∧ p.timeBase.partTime = some ⟨101, 0, 0⟩ ∧
      ((go 0x01#8 p).timeBase.state, (go 0x01#8 p).timeBase.selected) = (.tracking, some .B) ∧
      ((go 0x00#8 q).timeBase.state, (go 0x00#8 q).timeBase.selected) = (.tracking, some .B) ∧
      ((go 0x01#8 r).timeBase.selected, (go 0x01#8 r).engine.mode, (go 0x01#8 r).engine.strobe) =
        (some .B, .run, some ⟨101, 1⟩) ∧
      (go 0x01#8 p).attention.pending.time = true := by decide +kernel

/-- With no reference to take, a HOLDOVER beyond the new limit is EXPIRED, and UNSET stays. -/
theorem witness_ConfigureReference_none :
    let go := fun (p : Part) => after .configureReference (ask 0x11#8 (refParams 0x00#8 0x00#8) p)
    (go (onlyB .holdover (some .A) 11 timed)).timeBase.state = .expired ∧
      (go (onlyB .holdover (some .A) 10 timed)).timeBase.state = .holdover ∧
      (go (onlyB .unset none 0 timed)).timeBase.state = .unset ∧
      (go (onlyB .holdover (some .A) 10 timed)).timeBase.deltas = ⟨false, true, false, false⟩ := by decide +kernel

theorem witness_SelectReference :
    (ask 0x12#8 [0x00#8] timed).Runs 0x12 (entry 0x12#8 [0x00#8]) ∧ (0x00#8).toNat = portCode .A ∧
      timed.portA.state = .qualified ∧ timed.portA.pulseRecord = some ⟨100, 4000000000⟩ ∧ 2 ≤ (0x02#8).toNat ∧
      (0x01#8).toNat = portCode .B ∧ timed.portB.state ≠ .qualified ∧ timed.timeBase.state ≠ .unset ∧
      timed.timeBase.partTime = some ⟨100, 20000000, 0⟩ ∧
      timed.timeBase.cfg.stepThreshold * 1000 <
        (((PartTime.ns ⟨100, 20000000, 0⟩ : Nat) : Int) - (100 * 1000000000 + (5000000000 - 4000000000) : Nat)).natAbs ∧
      (((PartTime.ns ⟨101, 0, 0⟩ : Nat) : Int) - (100 * 1000000000 + (5000000000 - 4000000000) : Nat)).natAbs ≤
        timed.timeBase.cfg.stepThreshold * 1000 := by decide

/-- From UNSET an IDLE engine enters RUN at the first label after part time (R12, R24, R71). -/
theorem witness_SelectReference_unset :
    let p := { timed with timeBase := TimeBase.initial, engine := Engine.initial 50 }
    let t := after .selectReference (ask 0x12#8 [0x00#8] p)
    p.timeBase.state = .unset ∧ p.portA.state = .qualified ∧ p.engine.mode = .idle ∧
      (t.engine.mode, t.engine.strobe, t.timeBase.partTime) = (.run, some ⟨101, 1⟩, some ⟨101, 0, 0⟩) := by decide +kernel

/-! ### Stream Table -/

theorem witness_Reads :
    (ask 0x48#8 [] timed).Runs 0x48 (entry 0x48#8 []) ∧ (ask 0x53#8 [] timed).Runs 0x53 (entry 0x53#8 []) ∧
      (ask 0x27#8 [] timed).Runs 0x27 (entry 0x27#8 []) ∧ (ask 0x41#8 [0x03#8] timed).Runs 0x41 (entry 0x41#8 [0x03#8]) ∧
      4 ≤ (0x04#8).toNat ∧ (0x03#8).toNat = (3 : LaneId).val ∧ (∀ m : LaneId, (timed.lane m).deltas = ⟨false, false, false⟩) ∧
      ((timed.onLane 1 (fun x => { x with deltas := ⟨true, false, false⟩ })).lane 1).deltas ≠ ⟨false, false, false⟩ ∧
      (ask 0x26#8 [] timed).Runs 0x26 (entry 0x26#8 []) ∧ (ask 0x10#8 [] timed).Runs 0x10 (entry 0x10#8 []) ∧
      (ask 0x38#8 [] timed).Runs 0x38 (entry 0x38#8 []) ∧ (ask 0x32#8 [] timed).Runs 0x32 (entry 0x32#8 []) := by decide

theorem witness_Reads_changes :
    let p := timed.onStreams (fun t => { t with slots := (countUp 0 33).map (fun i => (i, ⟨none, true⟩)) })
    p.streams.wf = true ∧ 32 < (p.streams.slots.filter (fun x => x.2.mark)).length ∧
      (timed.streams.slots.filter (fun x => x.2.mark)).length ≤ 32 := by decide

theorem witness_Reads_window :
    let ps := be 4 100 ++ be 2 0
    let p := ask 0x32#8 ps (withEpochs [waiting7] timed)
    p.Runs 0x32 (entry 0x32#8 ps) ∧ ps.length = 6 ∧ field ps 4 2 < p.fo ∧
      p.epoch ⟨field ps 0 4, field ps 4 2⟩ = some waiting7 ∧ p.fo ≤ field (be 4 100 ++ be 2 50) 4 2 ∧
      (∀ x ∈ p.engine.entries, x.label ≠ ⟨100, 1⟩) := by decide

theorem witness_Register :
    let ps := be 2 511 ++ be 4 4294967294 ++ [0x64#8, 0x18#8, 0x10#8, 0x04#8, 0x03#8]
    let p := ask 0x20#8 ps (withStream unit7 timed)
    p.Runs 0x20 (entry 0x20#8 ps) ∧ ps.length = 11 ∧ p.streams.wf = true ∧ field ps 0 2 ≤ 511 ∧ field ps 2 4 ≠ 0 ∧
      field ps 2 4 ≠ 4294967295 ∧ field ps 6 1 ≠ 0 ∧ field ps 6 1 ∣ 2 * p.nominal ∧ field ps 7 1 ≤ 24 ∧ field ps 8 1 ≤ 16 ∧
      field ps 9 1 ≤ 4 ∧ (byteAt ps 10).toNat = (3 : Fin 4).val ∧ p.fo ∣ field ps 6 1 ∧ p.stream 511 = none ∧
      p.stream 3 = some unit7 ∧ ¬ (p.fo ∣ 4 ∨ 4 ∣ p.fo) ∧ 4 ∣ 2 * p.nominal := by decide

theorem witness_Register_free (j : Nat) (x : Stream) (h : (withStream unit7 timed).stream j = some x) :
    x.number ≠ 4294967294 := by
  by_cases hj : 3 = j <;>
    simp [withStream, timed, base, Part.stream, Part.onStreams, StreamTable.setSlot, StreamTable.slot, sparseSet, sparseGet,
      Part.reset, StreamTable.initial, Slot.vacant, hj] at h
  subst h
  decide

theorem witness_AlterAndResume :
    let ps := be 2 3 ++ [0x03#8, 0x18#8, 0x10#8, 0x04#8]
    let p := ask 0x21#8 ps (withStream unit7 timed)
    p.Runs 0x21 (entry 0x21#8 ps) ∧ ps.length = 6 ∧ field ps 0 2 ≤ 511 ∧ (byteAt ps 2).toNat = (3 : Fin 4).val ∧
      field ps 3 1 ≤ 24 ∧ field ps 4 1 ≤ 16 ∧ field ps 5 1 ≤ 4 ∧ p.stream 3 = some unit7 ∧ unit7.state ≠ .retiring ∧
      p.stream 4 = none ∧ (ask 0x23#8 [0x00#8, 0x03#8] (withStream { unit7 with state := .suspended } timed)).Runs 0x23
        (entry 0x23#8 [0x00#8, 0x03#8]) ∧ 511 < field [0x02#8, 0x00#8] 0 2 ∧ field [0x01#8, 0xFF#8] 0 2 ≤ 511 := by decide

theorem witness_SuspendAndRetire :
    (ask 0x22#8 [0x00#8, 0x03#8] (withStream unit7 timed)).Runs 0x22 (entry 0x22#8 [0x00#8, 0x03#8]) ∧
      (ask 0x24#8 [0x00#8, 0x03#8] (withStream unit7 timed)).Runs 0x24 (entry 0x24#8 [0x00#8, 0x03#8]) ∧
      field [0x00#8, 0x03#8] 0 2 = 3 ∧ (withStream unit7 timed).stream 3 = some unit7 ∧ unit7.refCount = 0 ∧
      (withStream { unit7 with refCount := 1 } timed).stream 3 = some { unit7 with refCount := 1 } ∧
      (withStream { unit7 with state := .retiring } timed).stream 3 = some { unit7 with state := .retiring } ∧
      timed.stream 3 = none := by decide

theorem witness_ReadStream :
    (ask 0x25#8 [0x00#8, 0x03#8] (withStream unit7 timed)).Runs 0x25 (entry 0x25#8 [0x00#8, 0x03#8]) ∧
      (ask 0x25#8 [0x00#8, 0x03#8] (withStream unit7 timed)).stream 3 = some unit7 ∧ timed.stream 3 = none := by decide

/-! ### Epoch Table and Frame Sorter -/

theorem witness_Strobe :
    base.strobeDue = none ∧ timed.strobeDue = some ⟨100, 1⟩ ∧
      (timed.onEngine (fun g => { g with horizon := some ⟨100, 1⟩ })).strobeDue = some ⟨100, 1⟩ ∧
      Label.le ⟨100, 1⟩ ⟨100, 1⟩ = true ∧ Label.le ⟨100, 1⟩ ⟨100, 0⟩ = false ∧ timed.engine.horizon = none ∧
      (withEpochs [{ waiting7 with label := ⟨100, 1⟩ }] timed).epoch ⟨100, 1⟩ = some { waiting7 with label := ⟨100, 1⟩ } ∧
      waiting7.counts.allZero = false ∧ ({ waiting7 with counts := ⟨0, 0, 0, 0⟩ } : Epoch).counts.allZero = true ∧
      timed.epoch ⟨100, 1⟩ = none ∧ timed.engine.entries.length < 256 ∧
      (withStream { unit7 with rate := 50 } timed).streams.snapshot 50 ⟨100, 1⟩ ≠ [] := by decide

theorem witness_Strobe_full :
    let full := withEpochs ((countUp 0 256).map (fun i => { waiting7 with label := ⟨99 - i, 0⟩ })) timed
    let due := withEpochs ((countUp 0 256).map (fun i => { waiting7 with label := ⟨99 - i, 0⟩, state := .due })) timed
    256 ≤ full.engine.entries.length ∧ full.epoch ⟨100, 1⟩ = none ∧ (full.engine.entries.head?.map Epoch.state) = some .opened ∧
      256 ≤ due.engine.entries.length ∧ due.epoch ⟨100, 1⟩ = none ∧ (due.engine.entries.head?.map Epoch.state) = some .due ∧
      Label.lt ⟨99, 0⟩ ⟨100, 1⟩ = true ∧ full.strobeDue = some ⟨100, 1⟩ ∧ due.strobeDue = some ⟨100, 1⟩ := by decide +kernel

theorem witness_DeadlineExpiry :
    let p := withEpochs [waiting7] (at80 (withStream unit7 timed))
    let q := withEpochs [waiting7] (at80 (withStream { unit7 with missCount := 7 } timed))
    p.epoch ⟨100, 0⟩ = some waiting7 ∧ p.expiryDue waiting7 = true ∧ p.epoch ⟨100, 1⟩ = none ∧
      (waiting7.outstanding.map Expected.index).Nodup ∧ waiting7.outstanding = [⟨3, 7, 0, false⟩] ∧
      p.stream 3 = some unit7 ∧ min (unit7.missCount + 1) 255 < p.engine.cfg.staleThreshold ∧
      q.expiryDue waiting7 = true ∧ q.stream 3 = some { unit7 with missCount := 7 } ∧
      q.engine.cfg.staleThreshold ≤ min (7 + 1) 255 ∧ unit7.number = 7 ∧ unit7.state = .armed := by decide

/-- The defaults of R72 as CONFIGURE_ALIGNMENT carries them, with another output rate and tolerance. -/
def alignment (fo tolerance : Nat) : List Byte :=
  be 1 fo ++ be 2 80 ++ be 2 250 ++ be 2 800 ++ be 2 2000 ++ be 2 tolerance ++ be 1 8 ++ [0x00#8, 0x00#8]

theorem witness_Alignment :
    let p := ask 0x30#8 (alignment 50 100) (withStream unit7 timed)
    p.Runs 0x30 (entry 0x30#8 (alignment 50 100)) ∧ (alignment 50 100).length = 14 ∧
      alignmentParams (alignment 50 100) = p.engine.cfg ∧ (50 : Nat) ∣ 2 * p.nominal ∧
      (p.engine.cfg.largestWait + p.engine.cfg.tolerance) * 50 = 105000 ∧ ¬ (3 ∣ 2 * p.nominal) ∧
      ¬ (4 ∣ unit7.rate ∨ unit7.rate ∣ 4) ∧ 4 ∣ 2 * p.nominal ∧
      (alignmentParams (alignment 25 100)).fo ≠ p.engine.cfg.fo ∧
      256 < ((2000 + 2000) * 100 + 999) / 1000 + 2 := by decide

theorem witness_Realignment :
    let p := withEpochs [waiting7] (timed.onEngine (fun g => { g with
      mode := .reinit, realign := some ⟨AlignConfig.initial 50, ⟨0, 0, 0⟩, none⟩ }))
    timed.engine.realign = none ∧ p.engine.realign = some ⟨AlignConfig.initial 50, ⟨0, 0, 0⟩, none⟩ ∧
      executing (ask 0x30#8 (alignment 25 100) p).control.queue = some (entry 0x30#8 (alignment 25 100)) ∧
      p.pins.resetLow = false := by decide

theorem witness_Flush : (ask 0x31#8 [] (withEpochs [waiting7] timed)).Runs 0x31 (entry 0x31#8 []) := by decide

theorem witness_EpochTicks : 50 ∣ 100 ∧ 36 % (100 / 50) = 0 ∧ epochTick 100 50 36 = 18 ∧ 10 ∣ 50 ∧ 10 < 50 ∧
    epochTick 10 50 3 = 15 := by decide

set_option Elab.async false in
theorem witness_SorterTests :
    let p := withEpochs [waiting7] (withStream unit7 timed)
    p.verdict 32 frame7 = (.file, some (3, unit7)) ∧ (withStream unit7 base).verdict 32 frame7 = (.noTime, none) ∧
      p.verdict 33 frame7 = (.malformed, none) ∧ timed.verdict 32 frame7 = (.stranger, none) ∧
      ((withStream { unit7 with state := .suspended } timed).verdict 32 frame7).1 = .suspended ∧
      ((withStream { unit7 with state := .retiring } timed).verdict 32 frame7).1 = .retired ∧
      ((withStream { unit7 with layout := ⟨2, 0, 0⟩ } timed).verdict 32 frame7).1 = .layoutMismatch ∧
      ((withStream unit7 timed).verdict 32 (be 4 7 ++ be 4 100 ++ be 2 10 ++ frame7.drop 10)).1 = .offGrid ∧
      ((withStream { unit7 with rate := 100 } timed).verdict 32 (be 4 7 ++ be 4 100 ++ be 2 1 ++ frame7.drop 10)).1 =
        .decimated := by decide +kernel

theorem witness_SorterTests_window :
    let p := withStream unit7 timed
    (((p.onEngine (fun g => { g with horizon := some ⟨100, 0⟩ })).verdict 32 frame7).1 = .late) ∧
      ((p.verdict 32 (be 4 7 ++ be 4 101 ++ be 2 0 ++ frame7.drop 10)).1 = .ahead) ∧
      ((withEpochs [{ waiting7 with members := [⟨3, 7, 1, 0, 0, false, false⟩] }] p).verdict 32 frame7).1 = .duplicate ∧
      ((p.verdict 32 (be 4 7 ++ be 4 100 ++ be 2 1 ++ frame7.drop 10)).1 = .early) ∧ (p.verdict 32 frame7).1 = .noEpoch ∧
      ((timed.onEngine (fun g => { g with mode := .reinit })).verdict 32 frame7).1 = .reinit := by decide +kernel

theorem witness_SortTakes :
    let p := queued frame7 timed
    p.engine.mode ≠ .frozen ∧ (2 : LaneId) = p.sorter.pointer + 1 + 2 ∧ (p.lane 0).queue = [] ∧ (p.lane 1).queue = [] ∧
      (p.lane 2).queue = ⟨9, 32⟩ :: [] ∧ p.chosenLane = some 2 ∧ (queued frame7 base).engine.mode = .idle ∧
      (∀ l : LaneId, (timed.lane l).queue = []) ∧ (timed.onEngine Engine.freeze).engine.mode = .frozen ∧
      (queued frame7 base).store.wf = true := by decide

theorem witness_SortCarriesOut :
    let p := queued frame7 (withStream unit7 timed)
    let q := p.onEngine (fun g => { g with horizon := some ⟨100, 0⟩, cfg := { g.cfg with forwarding := true } })
    (p.store.buffer 9).stored = frame7 ∧ p.stream 3 = some unit7 ∧ p.chosenLane = some 2 ∧
      (p.lane 2).queue.head? = some ⟨9, 32⟩ ∧ (withEpochs [waiting7] p).verdict 32 frame7 = (.file, some (3, unit7)) ∧
      (withEpochs [waiting7] p).epoch ⟨100, epochTick 10 50 0⟩ = some waiting7 ∧
      q.verdict 32 frame7 = (.late, some (3, unit7)) ∧ q.egress.stragglers.length < 16 ∧
      q.engine.cfg.forwarding = true ∧ p.verdict 32 frame7 = (.noEpoch, some (3, unit7)) ∧
      p.engine.cfg.forwarding = false ∧
      16 ≤ (q.onEgress (fun e => { e with stragglers := List.replicate 16 late7 })).egress.stragglers.length := by
  decide +kernel

/-! ### Feed Lanes and Payload Store -/

theorem witness_LaneLine :
    let whole := (almost kindMeas frame7).retained ++ [lastOf kindMeas frame7]
    let bad := (almost kindMeas []).retained ++ [0x00#8]
    base.listening 0 = true ∧ (base.onLane 0 (fun x => { x with enabled := false })).listening 0 = false ∧
      (whole.length = 7 + 32 ∧ checkGood 32 whole) ∧
      (bad.length = 7 + 0 ∧ ¬ checkGood 0 bad ∧ ∀ y ∈ bad.tail, y ≠ leadByte) ∧
      (let ret := [leadByte, kindMeas, 0x00#8, 0x01#8] ++ [0x21#8]
       ret.length = 5 ∧ 288 < field ret 2 3 ∧ ∀ y ∈ ret.tail, y ≠ leadByte) ∧
      (let ret := [leadByte, kindMeas, 0x00#8, 0x01#8] ++ [0x20#8]
       field ret 2 3 ≤ 288 ∧ byteAt ret 1 = kindMeas) ∧
      byteAt ((inHeader kindTime).retained ++ [0x00#8]) 1 ≠ kindMeas ∧ base.store.freeList = 7 :: [8] ∧
      (base.onStore (fun s => { s with freeList := [] })).store.freeList = [] ∧ base.store.below = false ∧
      (base.lane 0).queue.length < 64 ∧
      64 ≤ ((base.onLane 0 (fun x => { x with queue := List.replicate 64 ⟨0, 24⟩ })).lane 0).queue.length ∧
      (base.onStore (fun s => { s with lowMark := 2 })).store.below = false ∧ ([8] : List Nat).length < 2 := by
  decide +kernel

theorem witness_FlowFrameEnd :
    (base.lane 0).flowTx ≠ none ∧ (base.lane 0).lastFlow = some .go ∧ (base.lane 0).flow = .flowing ∧
      ((after (.flowFrameEnd 0) base).lane 0).flowTx = none ∧
      (let x := (base.onLane 0 (fun x => { x with flow := .held })).lane 0
       x.flowTx ≠ none ∧ x.flow = .held ∧ ¬ (x.lastFlow = some .hold ∨ base.pins.isolate = true ∨ x.loopback = true)) ∧
      (let x := (base.onLane 0 (fun x => { x with lastFlow := some .hold })).lane 0
       x.flow = .flowing ∧ ¬ (x.lastFlow = some .go ∨ base.pins.isolate = true ∨ x.loopback = true)) := by decide

theorem witness_ConfigureLane :
    let ps := [0x03#8, 0x00#8, 0x3F#8, 0x3E#8, 0x64#8]
    (ask 0x40#8 ps base).Runs 0x40 (entry 0x40#8 ps) ∧ ps.length = 5 ∧ (byteAt ps 0).toNat = (3 : LaneId).val ∧
      (byteAt ps 1).toNat ≤ 1 ∧ 1 ≤ field ps 3 1 ∧ field ps 3 1 < field ps 2 1 ∧ field ps 2 1 ≤ 63 ∧ 1 ≤ field ps 4 1 ∧
      field ps 4 1 ≤ 100 ∧ false = decide (byteAt ps 1 = 1) ∧ (base.lane 3).enabled = true ∧
      ¬ ((byteAt [0x04#8, 0x00#8, 0x3F#8, 0x3E#8, 0x64#8] 0).toNat ≤ 3) := by decide

theorem witness_SetLoopback :
    let ps := [0x01#8, 0x01#8]
    (ask 0x60#8 ps base).Runs 0x60 (entry 0x60#8 ps) ∧ ps.length = 2 ∧ (byteAt ps 0).toNat = (1 : LaneId).val ∧
      true = decide (byteAt ps 1 = 1) ∧ (base.lane 1).loopback ≠ true ∧ (base.lane 1).deltas.any = false ∧
      ¬ ((byteAt [0x01#8, 0x02#8] 1).toNat ≤ 1) := by decide

theorem witness_InjectFrame :
    let ps := be 1 1 ++ be 2 32 ++ frame7
    let p := ask 0x61#8 ps (base.onLane 1 (fun x => { x with loopback := true }))
    p.Runs 0x61 (entry 0x61#8 ps) ∧ 3 ≤ ps.length ∧ ps.length ≤ 1022 ∧ (byteAt ps 0).toNat = (1 : LaneId).val ∧
      (p.lane 1).loopback = true ∧ (p.lane 1).enabled = true ∧ (ps.drop 3).length ≤ 288 ∧
      field ps 1 2 = (ps.drop 3).length ∧ p.store.freeList = 7 :: [8] ∧ (p.lane 1).queue.length < 64 ∧
      (base.lane 1).loopback = false ∧ field (be 1 1 ++ be 2 31 ++ frame7) 1 2 ≠ (ps.drop 3).length ∧
      4 ≤ (byteAt [0x04#8, 0x00#8, 0x00#8] 0).toNat := by decide

theorem witness_Sweep :
    (ask 0x62#8 [] base).Runs 0x62 (entry 0x62#8 []) ∧ base.store.sweep.running = false ∧
      (base.onStore (fun s => { s with sweep := ⟨true, 0, some 0, 0, 0, 0, 0⟩ })).store.sweep.running = true ∧
      (base.onStore (fun s => { s with sweep := ⟨true, 0, some 0, 0, 0, 0, 0⟩ })).store.sweep.testing = some 0 ∧
      (base.store.buffer 0).state = .free ∧ base.store.wf = true := by decide

theorem witness_PoolMark :
    (ask 0x49#8 [0x40#8, 0x00#8] base).Runs 0x49 (entry 0x49#8 [0x40#8, 0x00#8]) ∧ field [0x40#8, 0x00#8] 0 2 ≤ 16384 ∧
      16384 < field [0x40#8, 0x01#8] 0 2 ∧ base.store.below = false ∧
      decide (base.store.freeList.length < field [0x40#8, 0x00#8] 0 2) = true ∧
      decide (base.store.freeList.length < field [0x00#8, 0x02#8] 0 2) = false := by decide

/-! ### Set Link, Control Link and attention -/

theorem witness_RecordEnd :
    let p := (filed9 .released timed).onEgress (fun e =>
      { e with releaseQueue := [{ set7 with send := .sending }], inFlight := some ⟨.set, []⟩ })
    let q := (filed9 .straggling timed).onEgress (fun e =>
      { e with stragglers := [{ late7 with send := .sending }], inFlight := some ⟨.strag, []⟩ })
    timed.egress.inFlight = none ∧ p.egress.inFlight = some ⟨.set, []⟩ ∧
      p.egress.releaseQueue = { set7 with send := .sending } :: [] ∧ p.engine.realign = none ∧
      (set7.members.map Member.index).Nodup ∧ p.stopped = false ∧ (p.setIsolate true).stopped = true ∧
      q.egress.inFlight = some ⟨.strag, []⟩ ∧ q.egress.stragglers = { late7 with send := .sending } :: [] ∧
      (withStream { unit7 with refCount := 2, state := .retiring } p).stream 3 =
        some { unit7 with refCount := 2, state := .retiring } ∧
      (withStream { unit7 with refCount := 1, state := .retiring } p).stream 3 =
        some { unit7 with refCount := 1, state := .retiring } := by decide

theorem witness_HostHold :
    (ask 0x51#8 [] timed).Runs 0x51 (entry 0x51#8 []) ∧ (ask 0x52#8 [] timed).Runs 0x52 (entry 0x52#8 []) ∧
      (ask 0x51#8 [0x00#8] timed).Runs 0x51 (entry 0x51#8 [0x00#8]) ∧
      (ask 0x52#8 [0x00#8] timed).Runs 0x52 (entry 0x52#8 [0x00#8]) ∧ timed.egress.inFlight = none ∧
      timed.egress.pausedAt = none ∧ timed.pins.isolate = false := by decide

theorem witness_Records :
    let p := ask 0x52#8 [] ((filed9 .released timed).onEgress (fun e => { e with releaseQueue := [set7], hostHold := true }))
    let q := ask 0x52#8 [] ((filed9 .straggling timed).onEgress (fun e => { e with stragglers := [late7], hostHold := true }))
    p.Runs 0x52 (entry 0x52#8 []) ∧ p.egress.inFlight = none ∧ p.egress.pausedAt = none ∧ p.pins.isolate = false ∧
      p.egress.releaseQueue = set7 :: [] ∧ p.egress.stragglers = [] ∧
      (∀ m ∈ set7.members, (p.store.buffer m.buffer).wrongBits = []) ∧ q.egress.releaseQueue = [] ∧
      q.egress.stragglers = late7 :: [] ∧ (q.store.buffer 9).wrongBits = [] ∧
      ((q.onStore (Store.upset 9 5)).store.buffer 9).wrongBits = [5] ∧
      2 ≤ (((q.onStore (Store.upset 9 5)).onStore (Store.upset 9 256)).store.buffer 9).wrongBits.length ∧
      q.store.wf = true := by decide

theorem witness_Arbiter :
    let e := { Egress.initial with releaseQueue := [set7], stragglers := [late7], arbiter := 4 }
    e.choose = some (.strag, 0) ∧ { e with arbiter := 3 }.choose = some (.set, 4) ∧
      { e with releaseQueue := [{ set7 with send := .resend }] }.choose = some (.set, 4) ∧
      { e with stragglers := [{ late7 with send := .resend }], arbiter := 2 }.choose = some (.strag, 2) := by decide

theorem witness_ReturnLine :
    let pauseEnd := (almost kindPause []).retained ++ [lastOf kindPause []]
    let resumeEnd := (almost kindResume []).retained ++ [lastOf kindResume []]
    let bad := (almost kindPause []).retained ++ [0x00#8]
    (pauseEnd.length = 7 ∧ checkGood 0 pauseEnd ∧ byteAt pauseEnd 1 = kindPause) ∧
      (resumeEnd.length = 7 ∧ checkGood 0 resumeEnd ∧ byteAt resumeEnd 1 ≠ kindPause) ∧
      (bad.length = 7 ∧ ¬ checkGood 0 bad ∧ ∀ y ∈ bad.tail, y ≠ leadByte) ∧
      (let ret := (inHeader kindPause).retained ++ [0x01#8]
       ret.length = 5 ∧ field ret 2 3 ≠ 0 ∧ ∀ y ∈ ret.tail, y ≠ leadByte) ∧
      (let ret := (inHeader kindTime).retained ++ [0x00#8]
       field ret 2 3 = 0 ∧ byteAt ret 1 ≠ kindPause ∧ byteAt ret 1 ≠ kindResume) ∧
      byteAt ((inHeader kindResume).retained ++ [0x00#8]) 1 = kindResume ∧
      (timed.onEgress (fun e => { e with pausedAt := some 0 })).egress.pausedAt.isSome = true := by decide +kernel

theorem witness_PauseLimit :
    let p := timed.onEgress (fun e => { e with pausedAt := some 4000000000 })
    let ps := be 2 1000
    p.egress.pausedAt = some 4000000000 ∧ p.egress.pauseLimit ≠ 0 ∧ 4000000000 + p.egress.pauseLimit * 1000000 ≤ p.clock ∧
      ({ p with clock := 4999999999 } : Part).clock < 4000000000 + p.egress.pauseLimit * 1000000 ∧
      (ask 0x50#8 ps p).Runs 0x50 (entry 0x50#8 ps) ∧ ps.length = 2 ∧ field ps 0 2 ≤ 60000 ∧ field ps 0 2 ≠ 0 ∧
      4000000000 + field ps 0 2 * 1000000 ≤ p.clock ∧ 60000 < field (be 2 60001) 0 2 ∧ field (be 2 0) 0 2 = 0 ∧
      field (be 2 60000) 0 2 ≤ 60000 ∧ p.clock < 4000000000 + field (be 2 1001) 0 2 * 1000000 := by decide

theorem witness_ControlLine :
    let whole := (almost kindReq [0x01#8, 0x01#8]).retained ++ [lastOf kindReq [0x01#8, 0x01#8]]
    let short := (almost kindReq [0x01#8]).retained ++ [lastOf kindReq [0x01#8]]
    let bad := (almost kindReq []).retained ++ [0x00#8]
    let full := base.onControl (fun c => { c with
      queue := [entry 0x01#8 [], ⟨0#8, 0#8, [], .waiting⟩, ⟨0#8, 0#8, [], .waiting⟩, ⟨0#8, 0#8, [], .waiting⟩] })
    (almost kindReq [0x01#8, 0x01#8]).phase = .body (0 + 2) ∧ whole.length = 9 + 0 ∧ checkGood (0 + 2) whole ∧
      (short.length = 7 + 1 ∧ checkGood 1 short) ∧ (bad.length = 7 ∧ ¬ checkGood 0 bad ∧ ∀ y ∈ bad.tail, y ≠ leadByte) ∧
      (let ret := [leadByte, kindReq, 0x00#8, 0x04#8] ++ [0x01#8]
       1024 < field ret 2 3 ∧ ∀ y ∈ ret.tail, y ≠ leadByte) ∧
      field ([leadByte, kindReq, 0x00#8, 0x04#8] ++ [0x00#8]) 2 3 ≤ 1024 ∧
      byteAt ((inHeader kindTime).retained ++ [0x00#8]) 1 ≠ kindReq ∧ base.control.queue.length < 4 ∧
      4 ≤ full.control.queue.length ∧ full.control.refusal = none ∧
      (full.onControl (fun c => { c with refusal := some ⟨0, []⟩ })).control.refusal.isSome = true := by decide +kernel

theorem witness_MessageEnd :
    let reply := ask 0x01#8 [] base |> after .identify
    let both := reply.onControl (fun c => { c with
      inFlight := some ⟨.notice, [], 0⟩, refusal := some ⟨5, []⟩, notice := some [] })
    let other := both.onControl (fun c => { c with queue := [], refusal := none })
    base.control.inFlight = none ∧ (reply.control.inFlight.map MessageInFlight.source) = some .entry ∧
      ((firstReply both.control.queue).map Reply.stamp) = some 0 ∧ both.control.refusal = some ⟨5, []⟩ ∧
      (firstReply other.control.queue).isNone = true ∧ other.control.refusal = none ∧ other.control.notice = some [] ∧
      both.pins.isolate = false := by decide +kernel

theorem witness_RequestsChecked :
    (ask 0x11#8 [] base).Runs 0x11 (entry 0x11#8 []) ∧ paramsAllowed 0x11 0 ≠ some true ∧
      Instr.configureReference.requestCode = some 0x11 ∧ (ask 0x7F#8 [] base).Runs (0x7F#8).toNat (entry 0x7F#8 []) ∧
      paramsAllowed (0x7F#8).toNat 0 = none ∧ paramsAllowed (0x01#8).toNat 0 ≠ none ∧
      executing base.control.queue = none ∧ (entry 0x11#8 []).code.toNat ≠ 0x10 ∧
      (base.onEngine (fun g => { g with realign := some ⟨g.cfg, ⟨0, 0, 0⟩, none⟩ })).engine.realign.isSome = true := by decide

theorem witness_Refused : Instr.suspendStream.requestCode = some 0x22 ∧
    (ask 0x22#8 [0x00#8, 0x03#8] base).Runs 0x22 (entry 0x22#8 [0x00#8, 0x03#8]) := by decide

theorem witness_Attention :
    (ask 0x58#8 [] base).Runs 0x58 (entry 0x58#8 []) ∧ (ask 0x59#8 [0x3F#8] base).Runs 0x59 (entry 0x59#8 [0x3F#8]) ∧
      (0x3F#8).toNat < 64 ∧ 64 ≤ (0x40#8).toNat := by decide

theorem witness_Laws : timed.AttnFollows ∧ timed.TimeSound ∧ timed.EngineTimed ∧ timed.WindowOrdered ∧
    timed.QueuesBounded ∧ timed.RequestsOrdered ∧ timed.StorageCanonical ∧ timed.SortsAccounted ∧
    ∃ t, step (at_ timed) = .next t := by
  refine ⟨by unfold Part.AttnFollows; decide, ⟨fun _ => ⟨.A, rfl, rfl⟩, by decide, ?_⟩,
    ⟨by decide, by decide, by decide, by decide⟩, ⟨by decide, by decide⟩, ⟨?_, by decide⟩,
    by unfold Part.RequestsOrdered; decide, ⟨by decide, by decide⟩, by unfold Part.SortsAccounted; decide, ?_⟩
  · intro r; cases r <;> decide
  · intro l; revert l; decide
  · exact ⟨_, rfl⟩

/-! ### Premises that are met: the clauses widened after the review -/

/-- The bytes of a header whose length is too great and that hold a second lead byte. -/
def twoLeads (kind : Byte) : Rx := ⟨.header, [leadByte, kind, leadByte, kind], 0, 0⟩

set_option Elab.async false in
theorem witness_Rescans :
    let givenUp := fun (kind : Byte) (most : Nat) =>
      let ret := (twoLeads kind).retained ++ [0x00#8]
      (twoLeads kind).phase = .header ∧ ret.length = 5 ∧ most < field ret 2 3 ∧ leadByte ∈ ret.tail
    let badEnd := fun (kind : Byte) =>
      let ret := (almost kind [leadByte]).retained ++ [0x00#8]
      (almost kind [leadByte]).phase = .body 1 ∧ ret.length = 7 + 1 ∧ ¬ checkGood 1 ret ∧ leadByte ∈ ret.tail
    givenUp kindTime 6 ∧ givenUp kindMeas 288 ∧ givenUp kindPause 0 ∧ givenUp kindReq 1024 ∧
      badEnd kindTime ∧ badEnd kindMeas ∧ badEnd kindReq := by decide +kernel

theorem test_rescan_timeMessage : (after (.timeMessageError .A 0x00#8) (base.onPort .A (fun x =>
    { x with rx := twoLeads kindTime }))).portA.rx = ⟨.header, [leadByte, kindTime, 0x00#8], 0, 10000000⟩ := by decide

theorem test_rescan_lane : ((after (.laneHeader 0 0x00#8) (base.onLane 0 (fun x =>
    { x with rx := twoLeads kindMeas }))).lane 0).rx.retained = [leadByte, kindMeas, 0x00#8] := by decide

theorem test_rescan_return : (after (.returnEnvelopeError 0x00#8) (base.onEgress (fun e =>
    { e with rx := twoLeads kindPause }))).egress.rx.retained = [leadByte, kindPause, 0x00#8] := by decide

theorem test_rescan_control : (after (.controlEnvelopeError 0x00#8) (base.onControl (fun c =>
    { c with rx := twoLeads kindReq }))).control.rx.retained = [leadByte, kindReq, 0x00#8] := by decide

theorem witness_HeldReset_message :
    let p := after .resetNAssert (after .identify (ask 0x01#8 [] base))
    p.pins.resetLow = true ∧ (p.control.inFlight.map MessageInFlight.source) = some .entry ∧
      (after .resetNAssert base).control.inFlight = none := by decide +kernel

/-- What a frozen part holds whose one entry has reached its deadline. -/
def frozenDue (misses : Nat) : Part :=
  after .isolateAsserted (withEpochs [waiting7] (at80 (withStream { unit7 with missCount := misses } timed)))

theorem witness_IsolateRemoved_entries :
    let p := frozenDue 0
    let q := frozenDue 7
    p.pins.isolate = true ∧ p.engine.mode = .frozen ∧ p.engine.strobe.isSome = true ∧
      p.timeBase.partTime = some ⟨100, 80000000, 0⟩ ∧ p.WindowOrdered ∧ p.engine.entries = [waiting7] ∧
      waiting7.state = .opened ∧ p.deadlineReached waiting7 = true ∧
      (waiting7.outstanding.map Expected.index).Nodup ∧ waiting7.counts.allZero = false ∧
      p.stream 3 = some unit7 ∧ unit7.state = .armed ∧ min (unit7.missCount + 1) 255 < p.engine.cfg.staleThreshold ∧
      waiting7.outstanding = [⟨3, 7, 0, false⟩] ∧ q.engine.entries.filter (fun e =>
        decide (e.state = .opened) && q.deadlineReached e) = [waiting7] ∧
      q.stream 3 = some { unit7 with missCount := 7 } ∧ q.engine.cfg.staleThreshold ≤ min (7 + 1) 255 ∧
      ({ waiting7 with counts := ⟨0, 0, 0, 0⟩, expected := [] } : Epoch).outstanding = [] ∧
      waiting7.label.lt (p.engine.labelAfter ⟨100, 80000000, 0⟩) = true := by
  unfold Part.WindowOrdered
  decide

theorem test_isolateRemoved_misses : ((after .isolateRemoved (frozenDue 0)).stream 3).map Stream.missCount = some 1 ∧
    ((after .isolateRemoved (frozenDue 7)).stream 3).map Stream.state = some .stale := by decide +kernel

/-- Stream 7, of class 1 with the shorter wait, becomes STALE by the first entry's miss: withdrawn from the second entry, it
leaves that one the later deadline of class 0, which part time has not reached (R20, log 42). -/
def frozenMoved : Part :=
  let waits : Four Nat := ⟨500, 80, 800, 2000⟩
  let first : Epoch := ⟨⟨100, 0⟩, .opened, .strobe, [⟨3, 7, 1, false⟩], [], ⟨0, 1, 0, 0⟩, some 80⟩
  let second : Epoch := ⟨⟨100, 1⟩, .opened, .strobe, [⟨3, 7, 1, false⟩, ⟨4, 8, 0, false⟩], [], ⟨1, 1, 0, 0⟩, some 80⟩
  let p := withStream { unit7 with missCount := 7 } timed
  after .isolateAsserted (((withEpochs [first, second] p).onEngine (fun g =>
    { g with cfg := { g.cfg with waits := waits } })).onTimeBase
      (fun t => { t with partTime := some ⟨100, 110000000, 0⟩ }))

theorem test_moved_deadline_is_not_delivered :
    let t := after .isolateRemoved frozenMoved
    (frozenMoved.engine.entries.map frozenMoved.deadlineReached) = [true, true] ∧
      (t.stream 3).map Stream.state = some .stale ∧
      t.engine.entries.map (fun e => (e.label, e.state, e.deadline)) = [(⟨100, 1⟩, .opened, some 500)] ∧
      t.egress.releaseQueue.map SetRecord.label = [⟨100, 0⟩] := by decide +kernel

theorem witness_IsolateRemoved_settled :
    let p := (frozenDue 7).onTimeBase (fun t => { t with partTime := some ⟨102, 0, 0⟩ })
    p.deadlineReached waiting7 = true ∧ waiting7.label.lt (p.engine.labelAfter ⟨102, 0, 0⟩) = true ∧
      ∀ w ∈ p.engine.cfg.waits.toList, PartTime.reachesAfter ⟨102, 0, 0⟩ p.fo waiting7.label w = true := by decide

theorem witness_IsolateRemoved_link :
    let p := (filed9 .released (after .isolateAsserted timed)).onEgress (fun e =>
      { e with releaseQueue := [{ set7 with send := .resend }] })
    let q := (filed9 .straggling (after .isolateAsserted timed)).onEgress (fun e =>
      { e with stragglers := [{ late7 with send := .resend }] })
    p.egress.inFlight = none ∧ p.egress.pausedAt = none ∧ p.egress.hostHold = false ∧ p.store.wf = true ∧
      p.egress.releaseQueue = { set7 with send := .resend } :: [] ∧ q.egress.releaseQueue.head? = none ∧
      q.egress.stragglers = { late7 with send := .resend } :: [] ∧
      (p.onEgress (fun e => { e with hostHold := true })).egress.hostHold = true ∧
      (p.onEgress (fun e => { e with pausedAt := some 0 })).egress.pausedAt.isSome = true := by decide

set_option Elab.async false in
theorem witness_IsolateRemoved_notice :
    let p := after .isolateAsserted timed
    let q := p.onAttention (fun a => { a with pending := { a.pending with time := true } })
    p.control.notice = none ∧ p.control.inFlight = none ∧ (after .isolateRemoved q).control.inFlight =
      some ⟨.notice, envelope kindNotice [0x01#8, 0x21#8], 0⟩ ∧
      (after .isolateRemoved (p.onLane 0 (fun x => { x with flow := .held, flowTx := none }))).attention.pending.lane = true := by
  decide +kernel

theorem test_readAttention_hands_notice :
    (after .readAttention (ask 0x58#8 [] (base.onAttention (fun a =>
      { a with pending := { a.pending with time := true }, gateOpen := false })))).control.notice =
      some [0x01#8, 0x01#8] ∧
    (after .setAttentionMask (ask 0x59#8 [0x20#8] (base.onAttention (fun a =>
      { a with pending := ⟨true, false, false, false, false, true⟩, mask := CauseSet.empty })))).control.notice =
      some [0x06#8, 0x21#8] := by decide +kernel

theorem test_restart_hands_notice :
    (after .restartAlignment (ask 0x02#8 [0x01#8] (base.onAttention (fun a =>
      { a with pending := { a.pending with time := true } })))).control.notice = some [0x01#8, 0x01#8] := by decide +kernel

theorem witness_PortExpiries_silence :
    let p := { timed with clock := 7000000000 }
    p.portA.prevPulse = some 4000000000 ∧ p.portA.state = .qualified ∧ 4000000000 + 3000000000 ≤ p.clock ∧
      p.timeBase.state = .tracking ∧ p.timeBase.selected = some .A ∧ (p.port RefPort.A.other).state ≠ .qualified ∧
      ¬ ((p.onTimeBase (fun t => { t with selected := some .B })).timeBase.selected = some RefPort.A) ∧
      p.timeBase.cfg.failover = true ∧ (p.onPort .B (fun x => { x with state := .qualified })).portB.state = .qualified ∧
      (after (.silenceExpiry .A) p).timeBase.state = .holdover := by decide

theorem witness_Strobe_empty :
    let quiet := timed.onEngine (fun g => { g with cfg := { g.cfg with voidPolicy := .suppress } })
    let full := timed.onEgress (fun e => { e with releaseQueue := List.replicate 32 set7 })
    timed.streams.snapshot 50 ⟨100, 1⟩ = [] ∧ timed.engine.entries = [] ∧ timed.engine.cfg.voidPolicy = .emit ∧
      quiet.engine.cfg.voidPolicy = .suppress ∧ timed.egress.releaseQueue.length < 32 ∧
      32 ≤ full.egress.releaseQueue.length ∧ quiet.strobeDue = some ⟨100, 1⟩ ∧ full.strobeDue = some ⟨100, 1⟩ ∧
      (after .strobe quiet).engine.counters.suppressedVoid = 1 ∧
      ((after .strobe full).engine.entries.map Epoch.state) = [.due] := by decide +kernel

theorem witness_Strobe_last :
    let p := (timed.onEngine (fun g => { g with strobe := some (Label.last 50) })).onTimeBase
      (fun t => { t with partTime := some ⟨4294967295, 990000000, 0⟩ })
    p.strobeDue = some (Label.last 50) ∧ (after .strobe p).engine.lastLabel = .taken ∧
      (after .strobe p).engine.strobe = some (Label.last 50) := by decide

theorem witness_SortTakes_unmatched :
    let reinit := queued frame7 (timed.onEngine (fun g => { g with mode := .reinit }))
    let p := queued frame7 timed
    let known := fun (ys : List Stranger) => p.onStreams (fun t => { t with strangers := ys })
    let others := (countUp 100 16).map (fun n => (⟨n, 0, ⟨0, 0⟩, 1⟩ : Stranger))
    p.pins.isolate = false ∧ (reinit.setIsolate true).pins.isolate = true ∧
      reinit.verdict 32 frame7 = (.reinit, none) ∧ p.verdict 31 frame7 = (.malformed, none) ∧
      p.verdict 32 frame7 = (.stranger, none) ∧ frameNumber frame7 = 7 ∧ (∀ y ∈ others, y.number ≠ 7) ∧
      16 ≤ others.length ∧ (others.take 15).length < 16 ∧ ([⟨7, 0, ⟨0, 0⟩, 65535⟩] : List Stranger).map Stranger.number = [7] ∧
      (after .sort (known [])).streams.strangers = [⟨7, 2, ⟨100, 0⟩, 1⟩] ∧
      (after .sort (known [⟨7, 0, ⟨0, 0⟩, 65535⟩])).streams.strangers = [⟨7, 0, ⟨0, 0⟩, 65535⟩] ∧
      (after .sort (known others)).streams.unlisted = 1 ∧ after .sort (reinit.setIsolate true) = reinit.setIsolate true := by
  decide +kernel

/-- A frame of stream 7 with label 100, tick 1, whose epoch tick is 5. -/
def early7 : List Byte := be 4 7 ++ be 4 100 ++ be 2 1 ++ frame7.drop 10

theorem witness_SortCarriesOut_early :
    let p := queued early7 (withStream { unit7 with state := .stale } timed)
    let window := fun (st : EpochState) =>
      withEpochs ((countUp 0 256).map (fun i => { waiting7 with label := ⟨99, i⟩, state := st })) p
    p.verdict 32 early7 = (.early, some (3, { unit7 with state := .stale })) ∧ p.engine.entries.length < 256 ∧
      p.engine.mode = .run ∧ p.pins.isolate = false ∧ p.engine.lastLabel ≠ .taken ∧ p.streams.wf = true ∧
      (∀ w ∈ p.engine.cfg.waits.toList, PartTime.reachesAfter ⟨100, 20000000, 0⟩ p.fo ⟨100, 5⟩ w = false) ∧
      ((window .opened).verdict 32 early7).1 = .early ∧ ((window .due).verdict 32 early7).1 = .early ∧
      256 ≤ (window .opened).engine.entries.length ∧ Label.lt ⟨99, 0⟩ ⟨100, 5⟩ = true ∧
      ((window .opened).engine.entries.head?.map Epoch.state) = some .opened ∧
      ((window .due).engine.entries.head?.map Epoch.state) = some .due ∧
      (window .due).streams.wf = true ∧ (window .opened).streams.wf = true ∧
      (after .sort (window .opened)).sorter.discards.windowFull = 1 ∧
      (after .sort (window .opened)).streams = (window .opened).streams ∧
      (makeRoom ⟨100, 5⟩ (window .due)).engine.counters.dropped = 1 := by decide +kernel

theorem witness_RecordEnd_realignment :
    let p := (filed9 .released timed).onEgress (fun e =>
      { e with releaseQueue := [{ set7 with send := .sending }], inFlight := some ⟨.set, []⟩ })
    let q := withEpochs [waiting7] (p.onEngine (fun g => { g with
      mode := .reinit, realign := some ⟨AlignConfig.initial 25, ⟨0, 0, 0⟩, none⟩ }))
    q.egress.inFlight = some ⟨.set, []⟩ ∧ q.egress.releaseQueue = { set7 with send := .sending } :: [] ∧
      q.engine.realign = some ⟨AlignConfig.initial 25, ⟨0, 0, 0⟩, none⟩ ∧ q.engine.mode = .reinit ∧
      ([] : List SetRecord).length + q.engine.entries.length ≤ 32 := by decide

theorem witness_Records_damage :
    let p := ask 0x52#8 [] ((filed9 .released timed).onEgress (fun e => { e with releaseQueue := [set7], hostHold := true }))
    let one := p.onStore (Store.upset 9 5)
    let two := one.onStore (Store.upset 9 256)
    one.store.wf = true ∧ (set7.members.map Member.buffer).Nodup ∧ (one.store.buffer 9).wrongBits.length = 1 ∧
      2 ≤ (two.store.buffer 9).wrongBits.length ∧ two.store.wf = true ∧ (after .resumeEgress one).store.corrections = 1 ∧
      (after .resumeEgress two).store.damagedReads = 1 := by decide +kernel

theorem witness_MessageEnd_sentWhole :
    let reply := after .identify (ask 0x01#8 [] base)
    (reply.control.inFlight.map MessageInFlight.source) = some .entry ∧
      (after .resetNAssert reply).control.inFlight = reply.control.inFlight ∧
      ((after (.pin Straps.low) reply).control.inFlight.map MessageInFlight.source) = some .detached ∧
      (after (.powerOn Straps.low) reply).control.inFlight = none := by decide +kernel

theorem mem_countUp : ∀ (k a n : Nat), n ∈ countUp a k ↔ a ≤ n ∧ n < a + k := by
  intro k
  induction k with
  | zero => intro a n; simp [countUp]
  | succ k ih => intro a n; simp only [countUp, List.mem_cons, ih]; omega

theorem nodup_countUp : ∀ (k a : Nat), (countUp a k).Nodup := by
  intro k
  induction k with
  | zero => intro a; simp [countUp]
  | succ k ih =>
    intro a
    simp only [countUp, List.nodup_cons, mem_countUp]
    exact ⟨by omega, ih _⟩

/-- A running part whose 16,384 buffers are free. -/
def stocked : Part := { timed with store := Store.initial }

theorem witness_Laws_held : stocked.BuffersAccounted ∧ stocked.ReferencesCounted ∧ stocked.LabelsInOrder ∧
    stocked.WindowOrdered ∧ stocked.StorageCanonical := by
  have e : stocked.held = (countUp 0 16384).map (fun n => (n, BufState.free)) := by
    show (countUp 0 16384).map (fun n => (n, BufState.free)) ++ [] ++ [] ++ [] ++ [] ++ [] = _
    simp only [List.append_nil]
  refine ⟨⟨?_, ?_, ?_, ?_, by decide⟩, ?_, ?_, ⟨by decide, by decide⟩, ⟨by decide, by decide⟩⟩
  · rw [e, List.map_map]
    exact (List.map_id'' (f := fun n => n) (fun _ => rfl) _).symm ▸ nodup_countUp 16384 0
  · intro x hx
    rw [e] at hx
    obtain ⟨n, hn, rfl⟩ := List.mem_map.1 hx
    exact ⟨by simpa using ((mem_countUp 16384 0 n).1 hn).2, rfl⟩
  · intro n hn _
    rw [e, List.map_map]
    exact List.mem_map.2 ⟨n, (mem_countUp 16384 0 n).2 (by omega), rfl⟩
  · intro l
    revert l
    decide
  · intro i
    rfl
  · refine ⟨List.Pairwise.nil, ?_, ?_, by decide, by decide, ?_, ?_, by decide, ?_, by decide⟩
    · intro r hr
      exact absurd (show r ∈ ([] : List SetRecord) from hr) List.not_mem_nil
    · intro r hr
      exact absurd (show r ∈ ([] : List SetRecord) from hr) List.not_mem_nil
    · intro m hm
      exact nomatch (show (none : Option Instant) = some m from hm)
    · intro m hm
      exact nomatch (show (none : Option Instant) = some m from hm)
    · intro w hw
      exact nomatch (show (none : Option Realign) = some w from hw)

theorem witness_Laws_left :
    (timed.onEngine (fun g => { g with horizon := some ⟨100, 0⟩ })).engine.newestLeft = some ⟨100, 0, 50⟩ ∧
      (at_ timed).pending.head? = none ∧ (⟨[.strobe], timed⟩ : State).pending.head? = some .strobe := by decide

theorem witness_Laws_returned :
    let p := timed.onEngine (fun g => { g with horizon := some ⟨100, 0⟩, dropped := [⟨100, 5, 50⟩] })
    let q := withEpochs [{ waiting7 with label := ⟨100, 1⟩ }] p
    q.NoneReturned ∧ q.HasLeft ⟨100, 5⟩ 50 ∧ q.HasLeft ⟨100, 1⟩ 10 ∧ q.HasLeft ⟨100, 0⟩ 50 ∧ ¬ q.HasLeft ⟨100, 1⟩ 50 := by
  refine ⟨?_, .inl ⟨⟨100, 5, 50⟩, by decide, by decide, by decide⟩, .inl ⟨⟨100, 5, 50⟩, by decide, by decide, by decide⟩,
    .inr ⟨⟨⟨100, 0, 50⟩, by decide, by unfold Instant.earlierThan earlier; decide⟩, ?_⟩, ?_⟩
  · intro e he
    simp only [withEpochs, Part.onEngine, List.mem_singleton] at he
    subst he
    rintro (⟨m, hm, h1, h2⟩ | ⟨-, h⟩)
    · simp only [withEpochs, Part.onEngine, List.mem_singleton] at hm
      subst hm
      revert h2
      decide
    · exact earlier_irrefl _ _ (h _ (by simp [withEpochs, Part.onEngine]))
  · intro e he
    simp only [withEpochs, Part.onEngine, List.mem_singleton] at he
    subst he
    exact .inr ⟨rfl, by decide⟩
  · rintro (⟨m, hm, h1, h2⟩ | ⟨-, h⟩)
    · simp only [withEpochs, Part.onEngine, List.mem_singleton] at hm
      subst hm
      revert h2
      decide
    · exact earlier_irrefl _ _ (h { waiting7 with label := ⟨100, 1⟩ } (by simp [withEpochs, Part.onEngine]))

/-! ### Labels beside the order (logs 26, 37, 41, 47) -/

/-- The oldest DUE entry makes room for an earlier label too (R59, R98). -/
theorem test_later_oldest_makes_room :
    let window := fun (p : Part) => withEpochs ((countUp 0 256).map (fun i => { waiting7 with label := ⟨101 + i, 0⟩, state := .due })) p
    let p := window (withStream { unit7 with rate := 50 } timed)
    let q := queued early7 (window (withStream unit7 timed))
    p.strobeDue = some ⟨100, 1⟩ ∧ p.epoch ⟨100, 1⟩ = none ∧ 256 ≤ p.engine.entries.length ∧
      (p.engine.entries.head?.map (fun e => e.label.lt ⟨100, 1⟩)) = some false ∧
      (after .strobe p).engine.counters.dropped = 1 ∧
      ((after .strobe p).engine.entries.take 2).map Epoch.label = [⟨100, 1⟩, ⟨102, 0⟩] ∧
      (q.verdict 32 early7).1 = .early ∧ q.canOpen = true ∧ (makeRoom ⟨100, 5⟩ q).engine.horizon = some ⟨101, 0⟩ := by decide +kernel

/-- The label so dropped is kept when the horizon moves back from it: neither a strobe nor a frame opens it again, and
the removal of ISOLATE does not count it as skipped (R144, R79, log 37). -/
theorem test_dropped_label_stays_closed :
    let p := (withStream unit7 timed).onEngine (fun g => { g with
      horizon := some ⟨100, 4⟩, strobe := some ⟨100, 5⟩, dropped := [⟨100, 5, 50⟩] })
    let u := after .strobe (p.onTimeBase (fun b => { b with partTime := some ⟨100, 100000000, 0⟩ }))
    let q := makeRoom ⟨100, 4⟩ (withEpochs ((countUp 0 256).map (fun i =>
      { waiting7 with label := ⟨100 + i, 5⟩, state := .due })) timed)
    p.windowVerdict 3 ⟨100, 5⟩ = .late ∧ p.left ⟨100, 6⟩ = false ∧ u.engine.strobe = some ⟨100, 6⟩ ∧
      u.engine.entries = [] ∧ u.engine.counters.opened = 0 ∧ p.labelsMissed ⟨100, 4⟩ ⟨100, 8⟩ = 2 ∧
      q.engine.dropped = [⟨100, 5, 50⟩] ∧ (q.engine.moveHorizon ⟨100, 4⟩).dropped = [⟨100, 5, 50⟩] ∧
      (q.engine.moveHorizon ⟨100, 5⟩).dropped = [] := by decide +kernel

/-- A frame opened `l` in the place of a later entry: its strobe finds it passed, and with nothing outstanding it becomes
DUE and is released (R57, R62, log 48). -/
theorem test_strobe_finds_entry_before_horizon :
    let p := withEpochs [{ waiting7 with label := ⟨100, 1⟩, expected := [], counts := ⟨0, 0, 0, 0⟩, deadline := none }]
      (timed.onEngine (fun g => { g with horizon := some ⟨100, 5⟩, dropped := [⟨100, 5, 50⟩] }))
    let t := after .strobe p
    p.strobeDue = some ⟨100, 1⟩ ∧ p.isClosed ⟨100, 1⟩ = true ∧ t.engine.entries = [] ∧
      t.engine.counters.released = 1 ∧ t.engine.horizon = some ⟨100, 1⟩ ∧ t.engine.dropped = [⟨100, 5, 50⟩] := by
  decide +kernel

/-- Where no entry left, the mark is absent and the strobe label starts right after part time (R76); the labels up to the
horizon that was stay closed to strobes and frames (R144, log 41). -/
theorem test_realignment_without_entries :
    let p := ask 0x30#8 (alignment 25 100) (timed.onEngine (fun g => { g with
      mode := .reinit, horizon := some ⟨101, 0⟩, realign := some ⟨AlignConfig.initial 25, ⟨0, 0, 0⟩, none⟩ }))
    let t := after .realignmentComplete p
    let u := after .strobe (t.onTimeBase (fun b => { b with partTime := some ⟨100, 50000000, 0⟩ }))
    t.engine.horizon = none ∧ t.engine.mark = none ∧ t.engine.strobe = some ⟨100, 1⟩ ∧
      t.engine.sealed = some ⟨101, 0, 50⟩ ∧ t.atStrobe ⟨101, 0⟩ = false ∧ t.atStrobe ⟨101, 1⟩ = true ∧
      u.engine.strobe = some ⟨100, 2⟩ ∧ u.engine.entries = [] ∧ u.engine.counters.opened = 0 := by decide +kernel

theorem test_withheld_last_label_is_not_early :
    let p := timed.onEngine (fun g => { g with
      strobe := some (Label.last 50), lastLabel := .withheld, mark := some ⟨4294967295, 99, 100⟩ })
    p.atStrobe (Label.last 50) = false := by decide

/-- The last label of all, strobed before ISOLATE, is passed after it too (R52, R79). -/
theorem test_strobed_last_label_stays_passed :
    let p := after .strobe ((timed.onEngine (fun g => { g with strobe := some (Label.last 50) })).onTimeBase
      (fun t => { t with partTime := some ⟨4294967295, 990000000, 0⟩ }))
    (after .isolateRemoved (after .isolateAsserted p)).passed (Label.last 50) = true := by decide +kernel

/-- The last label of all after its strobe was taken and skipped: at the strobe label by test 12 of R86 (log 47). -/
theorem test_strobed_last_label_is_early :
    let full := withEpochs ((countUp 0 256).map (fun i => { waiting7 with label := ⟨4294967290, i⟩ }))
      ((timed.onEngine (fun g => { g with strobe := some (Label.last 50) })).onTimeBase
        (fun t => { t with partTime := some ⟨4294967295, 990000000, 0⟩ }))
    let p := after .strobe full
    p.engine.counters.skipped = 1 ∧ p.engine.lastLabel = .taken ∧ p.epoch (Label.last 50) = none ∧
      p.windowVerdict 3 (Label.last 50) = .early := by decide +kernel

theorem witness_Pulse_notCandidate :
    let p := acquiring 3 (timed.onTimeBase (fun t => { t with
      state := .holdover, selected := some .B, cfg := { t.cfg with failover := false, preferred := .B } }))
    p.portA.badReason p.timeBase.cfg.pulseTolerance p.clock = none ∧ p.timeBase.state = .holdover ∧
      p.timeBase.cfg.qualifyCount ≤ min (p.portA.goodCount + 1) 16 ∧ p.timeBase.cfg.failover = false ∧
      p.timeBase.selected ≠ some .A ∧ p.timeBase.cfg.preferred ≠ .A ∧ (after (.pulse .A) p).portA.state = .qualified ∧
      (after (.pulse .A) p).timeBase.state = .holdover := by decide

theorem witness_Steps_engine :
    isForward ⟨100, 20000000, 0⟩ (100 * 1000000000) = false ∧ isForward ⟨100, 20000000, 0⟩ (101 * 1000000000) = true ∧
      timed.engine.mode = .run ∧ base.engine.mode ≠ .run := by decide

theorem witness_SortCarriesOut_lateLost :
    let p := queued frame7 (withStream unit7 (timed.onEngine (fun g => { g with horizon := some ⟨100, 0⟩ })))
    p.verdict 32 frame7 = (.late, some (3, unit7)) ∧ p.engine.cfg.forwarding = false ∧
      (after .sort p).sorter.discards.late = 1 ∧
      ((after .sort p).stream 3).map (fun x => x.counters.late) = some 1 := by decide +kernel

/-- Part time stands 1 s after the second that port A's next pulse announces. -/
def ahead (p : Part) : Part := p.onTimeBase (fun t => { t with partTime := some ⟨102, 20000000, 0⟩ })

theorem test_backward_step_leaves_engine :
    let p := withEpochs [waiting7] (ahead (withStream unit7 timed))
    isForward ⟨102, 20000000, 0⟩ (101 * 1000000000) = false ∧ (after (.pulse .A) p).timeBase.deltas.stepped = true ∧
      (after (.pulse .A) p).engine = p.engine ∧
      (let q := ask 0x12#8 [0x00#8] p
       (after .selectReference q).timeBase.deltas.stepped = true ∧ (after .selectReference q).engine = q.engine) := by decide

theorem test_step_leaves_frozen_engine :
    let p := (withEpochs [waiting7] (withStream unit7 timed)).onEngine (fun g => { g with mode := .frozen })
    (after (.pulse .A) p).timeBase.deltas.stepped = true ∧ (after (.pulse .A) p).engine = p.engine := by decide

theorem test_straggler_overflow_counts_late :
    let p := (queued frame7 (withStream unit7 (timed.onEngine (fun g => { g with
      horizon := some ⟨100, 0⟩, cfg := { g.cfg with forwarding := true } })))).onEgress (fun e =>
        { e with stragglers := List.replicate 16 late7 })
    p.verdict 32 frame7 = (.late, some (3, unit7)) ∧ 16 ≤ p.egress.stragglers.length ∧
      (after .sort p).sorter.discards.late = 1 ∧ ((after .sort p).stream 3).map (fun x => x.counters.late) = some 1 ∧
      (after .sort p).egress.counters.stragglerOverflow = 1 := by decide +kernel

/-! ### A filing on its way, and premises of the clauses that were added with it -/

/-- The filing of `frame7`, on its way. -/
def onItsWay (x : Stream) : Part :=
  { withStream x timed with filing := some ⟨3, 7, ⟨100, 0⟩, 3, 1#5, false⟩ }

/-- R85: a request in the interval runs before the filing is shown; the next event finds it arrived. -/
theorem test_filing_reaches_after_requests :
    let p := onItsWay { unit7 with refCount := 1 }
    let q := after .retireStream (ask 0x24#8 [0x00#8, 0x03#8] p)
    let t := after (.flowFrameEnd 0) q
    (q.stream 3).map (fun x => (x.state, x.lastFiled)) = some (.retiring, none) ∧ q.filing = p.filing ∧
      (t.stream 3).map (fun x => (x.state, x.lastFiled)) = some (.retiring, some ⟨100, 0⟩) ∧ t.filing = none ∧
      (t.streams.slot 3).mark = false ∧ t.attention.pending.stream = false ∧
      (after (.flowFrameEnd 0) p).streams.slot 3 =
        ⟨some { unit7.filed ⟨3, 7, ⟨100, 0⟩, 3, 1#5, false⟩ with state := .live, refCount := 1 }, true⟩ := by decide +kernel

theorem witness_Ready : base.Ready ∧ timed.Ready ∧ (frozenDue 0).Ready ∧ (onItsWay unit7).filing.isSome = true := by decide

theorem witness_Reached :
    (onItsWay unit7).stream 3 = some unit7 ∧ unit7.state = .armed ∧ (onItsWay unit7).pins.resetLow = false ∧
      (onItsWay { unit7 with state := .suspended }).stream 3 = some { unit7 with state := .suspended } ∧
      (onItsWay { unit7 with number := 8 }).stream 3 = some { unit7 with number := 8 } ∧
      ({ onItsWay unit7 with streams := timed.streams } : Part).stream 3 = none ∧
      (executing timed.control.queue).isSome = false ∧ (executing (ask 0x01#8 [] timed).control.queue).isSome = true ∧
      base.started = base := by decide

theorem witness_RestartScopes :
    (ask 0x02#8 [0x02#8] timed).Runs 0x02 (entry 0x02#8 [0x02#8]) ∧ (ask 0x02#8 [0x02#8] timed).filing = none ∧
      (ask 0x02#8 [0x01#8] timed).Runs 0x02 (entry 0x02#8 [0x01#8]) ∧ (0x01#8 : Byte).toNat = 1 ∧
      (ask 0x02#8 [0x00#8] timed).Runs 0x02 (entry 0x02#8 [0x00#8]) ∧ (0x00#8 : Byte).toNat = 0 ∧
      2 ≤ (0x02#8 : Byte).toNat := by decide

theorem witness_Isolate_queue :
    let a := [entry 0x01#8 []]
    let x : RequestEntry := ⟨1#8, 0x01#8, [], .replying ⟨0, []⟩⟩
    let b : List RequestEntry := [⟨2#8, 0x01#8, [], .replying ⟨1, []⟩⟩, ⟨3#8, 0x01#8, [], .waiting⟩]
    let p := (timed.onControl (fun c => { c with queue := a ++ x :: b, inFlight := some ⟨.entry, [], 0⟩ })).onLane 2
      (fun y => { y with rx := almost kindMeas frame7, claimed := some 7 })
    p.Ready ∧ p.control.sends .entry = true ∧ (∀ y ∈ a, y.state.isReplying = false) ∧ x.state.isReplying = true ∧
      (p.lane 2).rx.receiving = true ∧ (p.lane 2).claimed.toList ≠ [] ∧ p.store.wf = true ∧
      (after .isolateAsserted p).control.queue = a ++ [x] ∧ (after .isolateAsserted p).control.unanswered = 2 := by
  decide +kernel

theorem witness_Measured :
    let now : PartTime := ⟨100, 20000000, 0⟩
    let off := fun (x : PartTime) => ((x.ns : Int) - (101 * 1000000000 : Nat)).natAbs
    isForward now (101 * 1000000000) = true ∧ timed.timeBase.cfg.stepThreshold * 1000 < off now ∧
      isForward ⟨102, 20000000, 0⟩ (101 * 1000000000) = false ∧
      timed.timeBase.cfg.stepThreshold * 1000 < off ⟨102, 20000000, 0⟩ ∧
      off ⟨101, 1000000, 0⟩ ≤ timed.timeBase.cfg.stepThreshold * 1000 ∧ timed.engine.mode = .run ∧ timed.WindowOrdered ∧
      timed.engine.StrobeSound ∧ timed.engine.lastLabel = .ahead ∧
      Label.lt ⟨100, 1⟩ ((PartTime.ofNs (101 * 1000000000)).firstLabel timed.fo) = true := by
  refine ⟨by decide, by decide, by decide, by decide, by decide, by decide, ⟨by decide, by decide⟩, ?_, by decide,
    by decide⟩
  intro l hl
  cases hl
  decide

theorem witness_Failover :
    let p := { timed.onTimeBase (fun t => { t with partTime := some ⟨102, 0, 0⟩ }) with
      clock := 6000000000
      portB := { Port.initial with state := .qualified, goodCount := 4, pulseRecord := some ⟨101, 5000000000⟩ } }
    let q := (ask 0x11#8 ([0x04#8] ++ be 2 25 ++ be 4 600 ++ be 4 1000 ++ [0x00#8, 0x01#8]) timed).onTimeBase
      (fun t => { t with state := .holdover, partTime := some ⟨101, 0, 0⟩ })
    p.portA.prevPulse = some 4000000000 ∧ 4000000000 + 1500000000 ≤ p.clock ∧ p.portA.missingTaken = false ∧
      p.portA.state = .qualified ∧ p.timeBase.cfg.failover = true ∧ p.portB.pulseRecord = some ⟨101, 5000000000⟩ ∧
      (after (.missingPulseExpiry .A) p).timeBase.selected = some .B ∧
      4000000000 + 3000000000 ≤ ({ p with clock := 7000000000 } : Part).clock ∧
      q.timeBase.state = .holdover ∧ q.portA.state = .qualified ∧ q.portA.pulseRecord = some ⟨100, 4000000000⟩ ∧
      (after .configureReference q).timeBase.selected = some .A := by decide +kernel

theorem witness_ExpectsOnce :
    ∀ x ∈ (withEpochs [waiting7] timed).engine.entries, (x.expected.map Expected.index).Nodup := by decide

/-- An entry whose one member is stream 7's, at label `l`, and that awaits nobody. -/
def complete7 (l : Label) : Epoch :=
  { waiting7 with label := l, members := [⟨3, 7, 9, 2, 0, false, false⟩], counts := ⟨0, 0, 0, 0⟩, deadline := none }

theorem witness_LeftByTurn :
    let p := filed9 .filed (withEpochs [complete7 ⟨100, 1⟩] (withStream { unit7 with refCount := 1 } timed))
    p.strobeDue = some ⟨100, 1⟩ ∧ p.engine.horizon = none ∧ p.epoch ⟨100, 1⟩ = some (complete7 ⟨100, 1⟩) ∧
      p.engine.entries.head? = some (complete7 ⟨100, 1⟩) ∧ (complete7 ⟨100, 1⟩).members ≠ [] ∧
      (complete7 ⟨100, 1⟩).counts.allZero = true ∧ p.egress.releaseQueue.length < 32 ∧
      (after .strobe p).egress.releaseQueue.map SetRecord.content = [(complete7 ⟨100, 1⟩).asSet p false false] ∧
      ((after .strobe p).store.buffer 9).state = .released := by decide +kernel

/-- An entry that has stream 7's member and awaits streams 8 and 9, at indexes 4 and 5. -/
def waiting89 : Epoch :=
  ⟨⟨100, 0⟩, .opened, .strobe, [⟨3, 7, 0, false⟩, ⟨4, 8, 0, false⟩, ⟨5, 9, 0, false⟩], [⟨3, 7, 9, 2, 0, false, false⟩],
    ⟨2, 0, 0, 0⟩, some 80⟩

theorem witness_DeadlineExpiry_two :
    let put := fun (i : Nat) (x : Stream) (p : Part) => p.onStreams (StreamTable.setSlot i ⟨some x, false⟩)
    let later := { waiting7 with label := ⟨101, 0⟩ }
    let p := filed9 .filed (withEpochs [waiting89, later] (at80 (put 4 { unit7 with number := 8, missCount := 7 }
      (put 5 { unit7 with number := 9 } (withStream { unit7 with refCount := 1 } timed)))))
    let t := after (.deadlineExpiry ⟨100, 0⟩) p
    p.expiryDue waiting89 = true ∧ p.epoch ⟨100, 0⟩ = some waiting89 ∧ (waiting89.outstanding.map Expected.index) = [4, 5] ∧
      p.engine.cfg.staleThreshold ≤ min (7 + 1) 255 ∧ p.engine.entries.head? = some waiting89 ∧ waiting89.members ≠ [] ∧
      (∀ k ∈ p.engine.cfg.waits.toList, PartTime.reachesAfter ⟨100, 80000000, 0⟩ p.fo later.label k = false) ∧
      (t.stream 4).map Stream.state = some .stale ∧ (t.stream 5).map (fun x => (x.state, x.missCount)) = some (.armed, 1) ∧
      t.egress.releaseQueue.map SetRecord.content = [waiting89.asSet p false false] := by decide +kernel

theorem witness_Emptied :
    let es := [complete7 ⟨100, 0⟩, waiting7]
    let kept := es.filter (fun x => !decide (x.members = [] ∧ VoidPolicy.emit = .suppress))
    (kept.flatMap (fun x => x.members.map Member.buffer)).Nodup ∧ kept.take 32 ≠ [] := by decide

theorem witness_SortCarriesOut_leaves :
    let p := queued frame7 (withEpochs [waiting7] (withStream unit7 timed))
    p.Ready ∧ p.WindowOrdered ∧ p.engine.entries.head? = some waiting7 ∧ waiting7.state = .opened ∧
      p.passed ⟨100, 0⟩ = true ∧ (waiting7.members.map Member.index).Pairwise (· < ·) ∧
      waiting7.item 3 = some ⟨3, 7, 0, false⟩ ∧ (∀ k : Fin 4, waiting7.counts.get k = if k = 0 then 1 else 0) ∧
      p.egress.releaseQueue.length < 32 ∧
      (∀ w ∈ p.engine.cfg.waits.toList, PartTime.reachesAfter ⟨100, 20000000, 0⟩ p.fo ⟨100, 0⟩ w = false) := by
  unfold Part.WindowOrdered
  decide +kernel

theorem witness_PoolCrossings :
    let low := base.onStore (fun s => { s with lowMark := 2, freeList := [0, 8] })
    let inject := fun (p : Part) => ask 0x61#8 (be 1 1 ++ be 2 32 ++ frame7) (p.onLane 1 (fun x => { x with loopback := true }))
    let full := (inject low).onLane 1 (fun x => { x with queue := List.replicate 64 ⟨0, 24⟩ })
    low.store.below = false ∧ decide (low.store.freeList.tail.length < low.store.lowMark) = true ∧ low.store.wf = true ∧
      (after .injectFrame (inject low)).attention.pending.pool = true ∧ 64 ≤ (full.lane 1).queue.length ∧
      (full.lane 1).deltas.any = false ∧ (after .injectFrame full).attention.pending =
        { CauseSet.empty with pool := true, lane := true } ∧
      (low.store.buffer 0).state = .free ∧ (after .sweepStore (ask 0x62#8 [] low)).attention.pending.pool = true := by
  decide +kernel

theorem witness_Catalogue : (0x7F : Nat) ∉ [0x01, 0x02, 0x10, 0x11, 0x12, 0x20, 0x21, 0x22, 0x23, 0x24, 0x25, 0x26, 0x27, 0x30,
    0x31, 0x32, 0x38, 0x40, 0x41, 0x48, 0x49, 0x50, 0x51, 0x52, 0x53, 0x58, 0x59, 0x60, 0x61, 0x62] := by decide

theorem witness_Laws_window :
    let p := withEpochs [waiting7] (withStream unit7 timed)
    p.LanePends ∧ p.PoolMarked ∧ p.WindowCounted ∧ p.EntriesAfterLeft ∧ p.StorageCanonical ∧ p.NumbersDistinct := by
  refine ⟨by unfold Part.LanePends; decide, by unfold Part.PoolMarked; decide, by unfold Part.WindowCounted; decide, ?_,
    by unfold Part.StorageCanonical; decide, ?_⟩
  · intro e _ m hm
    exact nomatch (show (none : Option Instant) = some m from hm)
  · intro i j x y hx hy _
    have at3 : ∀ k z, (withStream unit7 timed).stream k = some z → k = 3 := by
      intro k z h
      by_contra hk
      simp [withStream, timed, base, Part.stream, Part.onStreams, StreamTable.setSlot, StreamTable.slot, sparseSet, sparseGet,
        Part.reset, StreamTable.initial, Slot.vacant, Ne.symm hk] at h
    exact (at3 i x hx).trans (at3 j y hy).symm

/-! ### Sorts that file: the free value of log 45 both ways -/

/-- A claim about the free value of log 45 holds if it holds whichever value its first use takes. -/
theorem lags_cases (P : (Nat → Bool) → Prop) (h : ∀ (b : Bool) (g : Nat → Bool), P (fun n => match n with
    | 0 => b
    | k + 1 => g k)) (g : Nat → Bool) : P g := by
  have e : g = (fun n => match n with
    | 0 => g 0
    | k + 1 => g (k + 1)) := by
    funext n
    cases n <;> rfl
  rw [e]
  exact h (g 0) (fun k => g (k + 1))

/-- A sort files, completes and releases, whether or not the filing has reached the Stream Table when it ends. -/
theorem test_sort_files :
    let t := sort (queued frame7 (withEpochs [waiting7] (withStream unit7 timed)))
    t.sorter.filed = 1 ∧ t.egress.inFlight.map (fun f => f.envelope.length) = some 49 ∧
      (t.stream 3).map Stream.refCount = some 1 ∧ (t.reached.stream 3).map Stream.state = some .live := by
  unfold sort sortLane settle takeMatched takeEarly fileInto fileEffects sendFiling
  generalize Config.filingLags = g
  revert g
  refine lags_cases _ ?_
  intro b g
  cases b <;> exact ⟨rfl, rfl, rfl, rfl⟩

theorem test_sort_opens_early :
    let t := sort (queued early7 (withStream { unit7 with state := .stale } timed))
    t.engine.entries.map Epoch.openedBy = [.frame] ∧ (t.reached.stream 3).map Stream.state = some .live := by
  unfold sort sortLane settle takeMatched takeEarly fileInto fileEffects sendFiling
  generalize Config.filingLags = g
  revert g
  refine lags_cases _ ?_
  intro b g
  cases b <;> exact ⟨rfl, rfl⟩

end Sys2Proof.Tests
end

section
/-! PROOFS. The straps and the last reset event (R2, O10). The rules of the executor and of the wrappers that give a row
its meaning come first; then what each request does to straps and last reset event; then the two halves of the
statement. -/

namespace Sys2Proof.Machine

/-! ### The wrappers of a row -/

theorem event_next {f : Part → Part} {s t : State} (h : State.event f s = .next t) : t.part = f s.part.reached := by
  cases h
  rfl

theorem runRequest_next {f : Part → Part} {s t : State} (h : State.runRequest f s = .next t) :
    t.part = f s.part.started := by
  cases h
  rfl

/-- What holds of a part with RESET_N low, and of what a change leaves, holds after the change under RESET_N. -/
theorem live_keeps {P : Part → Prop} {f : Part → Part} {p : Part} (h0 : P p) (hf : P (f p)) : P (Part.live f p) := by
  unfold Part.live
  split
  · exact h0
  · exact hf

/-- A property that completing a request and what follows the reply both keep holds after the executor has run, where it
held before and the request's own effect keeps it. -/
theorem serve_keeps {P : Part → Prop} {code : Nat} {run : List Byte → Part → Served} {after : Part → Part} {p : Part}
    (h0 : P p)
    (hrun : ∀ e, executing p.control.queue = some e → e.code.toNat = code →
      paramsAllowed code e.params.length = some true → P (run e.params p).part)
    (hcomplete : ∀ e st res q, P q → P (complete e st res q)) (hafter : ∀ q, P q → P (after q)) :
    P (serve code run after p) := by
  unfold serve
  split
  case h_1 => exact h0
  case h_2 e he =>
    split
    case isTrue => exact h0
    case isFalse hmine =>
      split
      case isTrue => exact hcomplete _ _ _ _ h0
      case isFalse hlen =>
        have hcode : e.code.toNat = code := by
          by_contra hne
          simp [hne] at hmine
        have hq := hcomplete e (run e.params p).status (run e.params p).results _
          (hrun e he hcode (not_not.mp hlen))
        show P (if (run e.params p).status = .done then _ else _)
        split
        · exact hafter _ hq
        · exact hq

/-- A request row whose request runs and passes its checks completes with the reply's part. -/
theorem completes_of_request {i : Instr} {s : State} {code : Nat} {run : List Byte → Part → Served} {e : RequestEntry}
    {q : Part} {res : List Byte} {holds : Part → Prop}
    (hi : exec i s = State.runRequest (request code run) s) (h : s.part.Runs code e)
    (hl : paramsAllowed code e.params.length = some true) (hr : run e.params s.part = .done q res)
    (hq : holds (complete e .done res q)) : Completes i s holds := by
  obtain ⟨hexec, -, -, hhigh⟩ := id h
  refine ⟨{ s with part := complete e .done res q }, ?_, rfl, hq⟩
  rw [hi, runRequest_eq, started_executing hexec, request, live_of_high _ _ hhigh, serve_done h hl hr, id]

@[simp] theorem done_part (p : Part) (res : List Byte) : (Served.done p res).part = p := rfl

@[simp] theorem refuse_part (p : Part) (st : Status) : (Served.refuse p st).part = p := rfl

@[simp] theorem started_straps (p : Part) : p.started.straps = p.straps := live_keeps (P := (·.straps = _)) rfl rfl

@[simp] theorem started_lastReset (p : Part) : p.started.lastReset = p.lastReset :=
  live_keeps (P := (·.lastReset = _)) rfl rfl

/-! ### Parts with the same straps and last reset event -/

/-- The straps in force and the last reset event of `q` are those of `p`. -/
structure SameOrigin (p q : Part) : Prop where
  straps : q.straps = p.straps
  lastReset : q.lastReset = p.lastReset

namespace SameOrigin

theorem refl (p : Part) : SameOrigin p p := ⟨rfl, rfl⟩

theorem trans {p q r : Part} (h : SameOrigin p q) (k : SameOrigin q r) : SameOrigin p r :=
  ⟨k.straps.trans h.straps, k.lastReset.trans h.lastReset⟩

theorem reached (p : Part) : SameOrigin p p.reached := ⟨by simp, by simp⟩

theorem started (p : Part) : SameOrigin p p.started := ⟨by simp, by simp⟩

theorem live {f : Part → Part} (hf : ∀ p, SameOrigin p (f p)) (p : Part) : SameOrigin p (Part.live f p) :=
  live_keeps (refl p) (hf p)

theorem event {f : Part → Part} {s t : State} (h : State.event f s = .next t) (hf : ∀ p, SameOrigin p (f p)) :
    SameOrigin s.part t.part := by
  rw [event_next h]
  exact (reached _).trans (hf _)

theorem runRequest {f : Part → Part} {s t : State} (h : State.runRequest f s = .next t)
    (hf : ∀ p, SameOrigin p (f p)) : SameOrigin s.part t.part := by
  rw [runRequest_next h]
  exact (started _).trans (hf _)

theorem serve {code : Nat} {run : List Byte → Part → Served} {after : Part → Part}
    (hrun : ∀ ps p, SameOrigin p (run ps p).part) (hafter : ∀ p, SameOrigin p (after p)) (p : Part) :
    SameOrigin p (Machine.serve code run after p) :=
  serve_keeps (P := SameOrigin p) (refl p) (fun _ _ _ _ => hrun _ _)
    (fun _ _ _ _ h => h.trans ⟨by simp, by simp⟩) (fun _ h => h.trans (hafter _))

theorem request {code : Nat} {run : List Byte → Part → Served} {s t : State}
    (h : State.runRequest (Machine.request code run) s = .next t) (hrun : ∀ ps p, SameOrigin p (run ps p).part) :
    SameOrigin s.part t.part :=
  runRequest h (live (serve hrun refl))

end SameOrigin

/-! ### What each request does to them -/

theorem runIdentify_origin (ps : List Byte) (p : Part) : SameOrigin p (runIdentify ps p).part := .refl p

theorem runReadAttention_origin (ps : List Byte) (p : Part) : SameOrigin p (runReadAttention ps p).part :=
  ⟨by simp [runReadAttention], by simp [runReadAttention]⟩

theorem runSetMask_origin (ps : List Byte) (p : Part) : SameOrigin p (runSetMask ps p).part := by
  unfold runSetMask
  split <;> exact ⟨by simp, by simp⟩

theorem runReadTime_origin (ps : List Byte) (p : Part) : SameOrigin p (runReadTime ps p).part :=
  ⟨by simp [runReadTime], by simp [runReadTime]⟩

theorem runConfigureReference_origin (ps : List Byte) (p : Part) : SameOrigin p (runConfigureReference ps p).part := by
  unfold runConfigureReference
  (repeat' split) <;> exact ⟨by simp, by simp⟩

theorem runSelectReference_origin (ps : List Byte) (p : Part) : SameOrigin p (runSelectReference ps p).part := by
  unfold runSelectReference
  (repeat' split) <;> exact ⟨by simp, by simp⟩

theorem runRegister_origin (ps : List Byte) (p : Part) : SameOrigin p (runRegister ps p).part := by
  simp only [runRegister]
  (repeat' split) <;> exact ⟨by simp, by simp⟩

theorem runAlter_origin (ps : List Byte) (p : Part) : SameOrigin p (runAlter ps p).part := by
  simp only [runAlter]
  (repeat' split) <;> exact ⟨by simp, by simp⟩

theorem runSuspend_origin (ps : List Byte) (p : Part) : SameOrigin p (runSuspend ps p).part := by
  simp only [runSuspend]
  (repeat' split) <;> exact ⟨by simp, by simp⟩

theorem runResume_origin (ps : List Byte) (p : Part) : SameOrigin p (runResume ps p).part := by
  simp only [runResume]
  (repeat' split) <;> exact ⟨by simp, by simp⟩

theorem runRetire_origin (ps : List Byte) (p : Part) : SameOrigin p (runRetire ps p).part := by
  simp only [runRetire]
  (repeat' split) <;> exact ⟨by simp, by simp⟩

theorem runReadStream_origin (ps : List Byte) (p : Part) : SameOrigin p (runReadStream ps p).part := by
  simp only [runReadStream]
  (repeat' split) <;> exact ⟨by simp, by simp⟩

theorem runReadChanges_origin (ps : List Byte) (p : Part) : SameOrigin p (runReadChanges ps p).part := by
  simp only [runReadChanges]
  split <;> exact ⟨by simp, by simp⟩

theorem runReadStrangers_origin (ps : List Byte) (p : Part) : SameOrigin p (runReadStrangers ps p).part :=
  ⟨by simp [runReadStrangers], by simp [runReadStrangers]⟩

theorem runConfigureAlignment_origin (ps : List Byte) (p : Part) : SameOrigin p (runConfigureAlignment ps p).part := by
  unfold runConfigureAlignment
  split <;> exact ⟨by simp, by simp⟩

theorem runFlush_origin (ps : List Byte) (p : Part) : SameOrigin p (runFlush ps p).part :=
  ⟨by simp [runFlush], by simp [runFlush]⟩

theorem runReadWindow_origin (ps : List Byte) (p : Part) : SameOrigin p (runReadWindow ps p).part := by
  unfold runReadWindow
  (repeat' split) <;> exact .refl p

theorem runReadSorter_origin (ps : List Byte) (p : Part) : SameOrigin p (runReadSorter ps p).part := .refl p

theorem runConfigureLane_origin (ps : List Byte) (p : Part) : SameOrigin p (runConfigureLane ps p).part := by
  unfold runConfigureLane
  (repeat' split) <;> exact ⟨by simp, by simp⟩

theorem clearLaneCause_origin (p : Part) : SameOrigin p (clearLaneCause p) := by
  unfold clearLaneCause
  split <;> exact ⟨by simp, by simp⟩

theorem runReadLane_origin (ps : List Byte) (p : Part) : SameOrigin p (runReadLane ps p).part := by
  unfold runReadLane
  split
  · exact .refl p
  · exact .trans ⟨by simp, by simp⟩ (clearLaneCause_origin _)

theorem runSetLoopback_origin (ps : List Byte) (p : Part) : SameOrigin p (runSetLoopback ps p).part := by
  unfold runSetLoopback
  split <;> exact ⟨by simp, by simp⟩

theorem writeBody_origin (n : Option Nat) (body : List Byte) (p : Part) : SameOrigin p (writeBody n body p) := by
  cases n <;> exact ⟨rfl, rfl⟩

theorem inject_origin (l : LaneId) (body : List Byte) (p : Part) : SameOrigin p (inject l body p).part :=
  have hclaim : SameOrigin p (claim p).1 := ⟨by simp, by simp⟩
  have hwrite := hclaim.trans (writeBody_origin (claim p).2 body _)
  hwrite.trans ⟨by simp [inject], by simp [inject]⟩

theorem runInject_origin (ps : List Byte) (p : Part) : SameOrigin p (runInject ps p).part := by
  unfold runInject
  (repeat' split)
  case h_2.isFalse.isFalse => exact inject_origin _ _ _
  all_goals exact .refl p

theorem runReadPool_origin (ps : List Byte) (p : Part) : SameOrigin p (runReadPool ps p).part :=
  ⟨by simp [runReadPool], by simp [runReadPool]⟩

theorem runSetPoolMark_origin (ps : List Byte) (p : Part) : SameOrigin p (runSetPoolMark ps p).part := by
  unfold runSetPoolMark
  split <;> exact ⟨by simp, by simp⟩

theorem runSweep_origin (ps : List Byte) (p : Part) : SameOrigin p (runSweep ps p).part := by
  unfold runSweep
  split <;> exact ⟨by simp, by simp⟩

theorem overrideIfDue_origin (p : Part) : SameOrigin p (overrideIfDue p) := by
  unfold overrideIfDue
  split <;> exact ⟨by simp, by simp⟩

theorem runConfigureEgress_origin (ps : List Byte) (p : Part) : SameOrigin p (runConfigureEgress ps p).part := by
  unfold runConfigureEgress
  split
  · exact .refl p
  · exact .trans ⟨by simp, by simp⟩ (overrideIfDue_origin _)

theorem runHoldEgress_origin (ps : List Byte) (p : Part) : SameOrigin p (runHoldEgress ps p).part := ⟨rfl, rfl⟩

theorem runResumeEgress_origin (ps : List Byte) (p : Part) : SameOrigin p (runResumeEgress ps p).part :=
  ⟨by simp [runResumeEgress], by simp [runResumeEgress]⟩

theorem runReadEgress_origin (ps : List Byte) (p : Part) : SameOrigin p (runReadEgress ps p).part :=
  ⟨by simp [runReadEgress], by simp [runReadEgress]⟩

theorem unknownRequest_origin (p : Part) : SameOrigin p (unknownRequest p) := by
  unfold unknownRequest
  (repeat' split) <;> exact ⟨by simp, by simp⟩

theorem configureAlignment_origin (p : Part) : SameOrigin p (configureAlignment p) := by
  unfold configureAlignment
  split
  · exact ⟨by simp, by simp⟩
  · exact .serve runConfigureAlignment_origin .refl p

theorem resetNAssert_origin (p : Part) : SameOrigin p (resetNAssert p) := by
  unfold resetNAssert
  split <;> exact ⟨rfl, rfl⟩

/-! ### The reset events -/

/-- Between `p` and `q` the straps have stayed, and the last reset event has stayed or become `k`. -/
def Restarted (k : ResetEvent) (p q : Part) : Prop :=
  q.straps = p.straps ∧ (q.lastReset = p.lastReset ∨ q.lastReset = k)

theorem SameOrigin.restarted {p q : Part} (h : SameOrigin p q) (k : ResetEvent) : Restarted k p q :=
  ⟨h.straps, .inl h.lastReset⟩

theorem Restarted.trans_same {k : ResetEvent} {p q r : Part} (h : Restarted k p q) (hr : SameOrigin q r) :
    Restarted k p r := by
  obtain ⟨hstraps, hlast⟩ := h
  exact ⟨hr.straps.trans hstraps, hlast.imp hr.lastReset.trans hr.lastReset.trans⟩

theorem Restarted.of_same {k : ResetEvent} {p q r : Part} (hq : SameOrigin p q) (h : Restarted k q r) :
    Restarted k p r := by
  obtain ⟨hstraps, hlast⟩ := h
  exact ⟨hstraps.trans hq.straps, hlast.imp_left (·.trans hq.lastReset)⟩

theorem powerOn_origin (st : Straps) (p : Part) :
    (powerOn st p).straps = st ∧ (powerOn st p).lastReset = .powerOn := by
  simp [powerOn, Part.cleared]

theorem pin_origin (st : Straps) (p : Part) : (pin st p).straps = st ∧ (pin st p).lastReset = .pin := by
  simp [pin, Part.cleared]

theorem restartFullEvent_restarted (p : Part) : Restarted .restartFull p (restartFullEvent p) := by
  simp [Restarted, restartFullEvent, Part.cleared]

theorem restartAlignmentEvent_restarted (p : Part) : Restarted .restartAlignment p (restartAlignmentEvent p) := by
  simp [Restarted, restartAlignmentEvent]

/-- The reset event of a RESTART row that leaves the scope `other` to the other row. -/
def restartEvent : Nat → ResetEvent
  | 0 => .restartAlignment
  | _ => .restartFull

/-- A RESTART that the row of its scope runs takes that scope's reset event. -/
theorem runRestart_restarted {other : Nat} (ps : List Byte) (p : Part) (ho : other < 2)
    (hscope : (byteAt ps 0).toNat ≠ other) : Restarted (restartEvent other) p (runRestart ps p).part := by
  unfold runRestart
  split
  case h_1 h0 =>
    obtain rfl : other = 1 := by omega
    exact restartFullEvent_restarted p
  case h_2 h1 =>
    obtain rfl : other = 0 := by omega
    exact restartAlignmentEvent_restarted p
  case h_3 => exact (SameOrigin.refl p).restarted _

theorem restartRow_restarted {other : Nat} (ho : other < 2) (p : Part) :
    Restarted (restartEvent other) p (restartRow other p) := by
  have hp := (SameOrigin.refl p).restarted (restartEvent other)
  unfold restartRow
  split
  case isTrue => exact hp
  case isFalse hrow =>
    refine serve_keeps (P := Restarted (restartEvent other) p) hp (fun e he hc hl => ?_)
      (fun _ _ _ _ h => h.trans_same ⟨by simp, by simp⟩) (fun _ h => h.trans_same ⟨by simp, by simp⟩)
    refine runRestart_restarted _ _ ho fun hscope => hrow ?_
    have hlen : e.params.length = 1 := by simpa [paramsAllowed] using hl
    simp [Part.restartsAs, he, hc, hlen, hscope]

theorem exec_restart {other : Nat} {s t : State} (ho : other < 2)
    (h : State.event (fun p => Part.live (restartRow other) p.started) s = .next t) :
    Restarted (restartEvent other) s.part t.part := by
  rw [event_next h]
  refine .of_same ((SameOrigin.reached _).trans (.started _)) ?_
  exact live_keeps ((SameOrigin.refl _).restarted _) (restartRow_restarted ho _)

/-! ### Every command -/

theorem exec_powerOn {st : Straps} {s t : State} (h : exec (.powerOn st) s = .next t) :
    t.part.straps = st ∧ t.part.lastReset = .powerOn := by
  cases h
  exact powerOn_origin st s.part

theorem exec_pin {st : Straps} {s t : State} (h : exec (.pin st) s = .next t) :
    t.part.straps = st ∧ t.part.lastReset = .pin := by
  cases h
  exact pin_origin st s.part

theorem exec_restartFull {s t : State} (h : exec .restartFull s = .next t) :
    Restarted .restartFull s.part t.part :=
  exec_restart (other := 1) (by omega) h

theorem exec_restartAlignment {s t : State} (h : exec .restartAlignment s = .next t) :
    Restarted .restartAlignment s.part t.part :=
  exec_restart (other := 0) (by omega) h

/-- The rows that take a reset event. -/
def TakesReset : Instr → Prop
  | .powerOn _ | .pin _ | .restartFull | .restartAlignment => True
  | _ => False

/-- A row that takes no reset event leaves the straps and the last reset event. -/
theorem exec_sameOrigin {c : Instr} {s t : State} (h : exec c s = .next t) (hc : ¬ TakesReset c) :
    SameOrigin s.part t.part := by
  cases c with
  | powerOn | pin | restartFull | restartAlignment => exact absurd trivial hc
  | resetNAssert => exact .event h resetNAssert_origin
  | isolateAsserted | isolateRemoved | carrierChange | flowFrameEnd | messageEnd =>
    exact .event h fun _ => ⟨by simp, by simp⟩
  | pulse | timeMessage | timeMessageError | tmsgByte | tmsgGapExpiry | missingPulseExpiry | silenceExpiry
  | holdoverSecond | slewEnd | strobe | deadlineExpiry | sort | laneHeader | laneFrameEnd | laneByte | laneGapExpiry
  | sweepVerdict | recordEnd | pause | resume | returnEnvelopeError | returnLinkByte | returnGapExpiry
  | pauseLimitExpiry | requestArrival | controlEnvelopeError | controlLinkByte | controlGapExpiry
  | realignmentComplete =>
    exact .event h (.live fun _ => ⟨by simp, by simp⟩)
  | unknownRequest => exact .runRequest h (.live unknownRequest_origin)
  | configureAlignment => exact .runRequest h (.live configureAlignment_origin)
  | readAttention => exact .runRequest h (.live (.serve runReadAttention_origin fun _ => ⟨by simp, by simp⟩))
  | setAttentionMask => exact .runRequest h (.live (.serve runSetMask_origin fun _ => ⟨by simp, by simp⟩))
  | sweepStore => exact .runRequest h (.live (.serve runSweep_origin fun _ => ⟨by simp, by simp⟩))
  | identify => exact .request h runIdentify_origin
  | readTime => exact .request h runReadTime_origin
  | configureReference => exact .request h runConfigureReference_origin
  | selectReference => exact .request h runSelectReference_origin
  | registerStream => exact .request h runRegister_origin
  | alterStream => exact .request h runAlter_origin
  | suspendStream => exact .request h runSuspend_origin
  | resumeStream => exact .request h runResume_origin
  | retireStream => exact .request h runRetire_origin
  | readStream => exact .request h runReadStream_origin
  | readChanges => exact .request h runReadChanges_origin
  | readStrangers => exact .request h runReadStrangers_origin
  | flushWindow => exact .request h runFlush_origin
  | readWindow => exact .request h runReadWindow_origin
  | readSorter => exact .request h runReadSorter_origin
  | configureLane => exact .request h runConfigureLane_origin
  | readLane => exact .request h runReadLane_origin
  | setLoopback => exact .request h runSetLoopback_origin
  | injectFrame => exact .request h runInject_origin
  | readPool => exact .request h runReadPool_origin
  | setPoolMark => exact .request h runSetPoolMark_origin
  | configureEgress => exact .request h runConfigureEgress_origin
  | holdEgress => exact .request h runHoldEgress_origin
  | resumeEgress => exact .request h runResumeEgress_origin
  | readEgress => exact .request h runReadEgress_origin

/-! ### IDENTIFY -/

theorem be_one (n : Nat) : be 1 n = [BitVec.ofNat 8 n] := by simp [be]

theorem ctlBaud_eq (r : BitVec 2) :
    ctlBaud r = if r = 0 then 115200 else if r = 1 then 460800 else if r = 2 then 921600 else 3000000 := by
  revert r
  decide

/-- The results of IDENTIFY, field by field (R164). -/
theorem identifyResults_eq (p : Part) :
    identifyResults p =
      [0x0D#8, 0x7A#8, 0x05#8, 0x12#8, 0x01#8, BitVec.ofNat 8 p.straps.nominal, BitVec.ofNat 8 p.straps.node.toNat,
          BitVec.ofNat 8 p.straps.ctlRate.toNat] ++
        be 4 (if p.straps.ctlRate = 0 then 115200 else if p.straps.ctlRate = 1 then 460800
          else if p.straps.ctlRate = 2 then 921600 else 3000000) ++
        be 1 p.lastReset.code ++ be 4 p.control.envelopeErrors ++ be 4 p.control.unanswered := by
  have hpart : be 2 0x0D7A = [0x0D#8, 0x7A#8] := by decide
  have hrevision : be 2 0x0512 = [0x05#8, 0x12#8] := by decide
  simp [identifyResults, hpart, hrevision, be_one, ctlBaud_eq, Part.nominal]

theorem exec_identify_completes {s : State} {e : RequestEntry} (h : s.part.Runs 0x01 e) (hps : e.params = []) :
    Completes .identify s (fun t => t = { s.part with control := t.control } ∧
      Answered e .done (identifyResults s.part) s.part t) :=
  completes_of_request rfl h (by simp [hps, paramsAllowed]) rfl
    ⟨complete_frame _ _ _ _, complete_answers rfl (.refl _)⟩

end Sys2Proof.Machine

open Sys2Proof Sys2Proof.Machine

/-- Settles O10: POWER_ON and PIN take their operands, RESTART its own event, every other row leaves both fields, and
IDENTIFY's reply is read off. -/
theorem strapsSampledAtPowerOnAndPin : Obligations.StrapsSampledAtPowerOnAndPin := by
  refine ⟨fun c s t h => ?_, fun s e hruns hps => ?_⟩
  · by_cases hc : TakesReset c
    case neg =>
      have hsame := exec_sameOrigin h hc
      refine ⟨?_, fun _ => hsame.straps, fun hne => absurd hsame.lastReset hne⟩
      rintro st (rfl | rfl) <;> exact absurd trivial hc
    case pos =>
      cases c with
      | powerOn st =>
        obtain ⟨hstraps, hlast⟩ := exec_powerOn h
        exact ⟨by simpa using hstraps, fun hne => absurd rfl (hne st).1, fun _ => .inl ⟨st, rfl, hlast⟩⟩
      | pin st =>
        obtain ⟨hstraps, hlast⟩ := exec_pin h
        exact ⟨by simpa using hstraps, fun hne => absurd rfl (hne st).2, fun _ => .inr (.inl ⟨st, rfl, hlast⟩)⟩
      | restartFull =>
        obtain ⟨hstraps, hlast⟩ := exec_restartFull h
        exact ⟨by simp, fun _ => hstraps, fun hne => .inr (.inr (.inl ⟨rfl, hlast.resolve_left hne⟩))⟩
      | restartAlignment =>
        obtain ⟨hstraps, hlast⟩ := exec_restartAlignment h
        exact ⟨by simp, fun _ => hstraps, fun hne => .inr (.inr (.inr ⟨rfl, hlast.resolve_left hne⟩))⟩
      | _ => exact absurd hc id
  · rw [← identifyResults_eq]
    exact exec_identify_completes hruns hps

end

section
/-! PROOFS. Rates, labels and epoch ticks (R3, R93, O32). -/

namespace Sys2Proof.Machine

theorem permittedRate_iff (nominal r : Nat) : permittedRate nominal r = true ↔ r ≠ 0 ∧ r ∣ 2 * nominal := by
  simp [permittedRate, Nat.dvd_iff_mod_eq_zero]

/-- The permitted rates of a nominal frequency are the divisors of twice that frequency. -/
theorem permittedRate_iff_mem_divisors {nominal : Nat} (hn : 0 < nominal) (r : Nat) :
    permittedRate nominal r = true ↔ r ∈ Nat.divisors (2 * nominal) := by
  have hr : r ∣ 2 * nominal → r ≠ 0 := fun hd h0 => by
    subst h0
    have := Nat.zero_dvd.mp hd
    omega
  rw [permittedRate_iff, Nat.mem_divisors]
  exact ⟨fun h => ⟨h.2, by omega⟩, fun h => ⟨hr h.1, h.1⟩⟩

theorem permittedRate_50_iff (r : Nat) : permittedRate 50 r = true ↔ r ∈ [1, 2, 4, 5, 10, 20, 25, 50, 100] := by
  have hdivisors : Nat.divisors 100 = [1, 2, 4, 5, 10, 20, 25, 50, 100].toFinset := by decide
  rw [permittedRate_iff_mem_divisors (by omega), hdivisors, List.mem_toFinset]

theorem permittedRate_60_iff (r : Nat) :
    permittedRate 60 r = true ↔ r ∈ [1, 2, 3, 4, 5, 6, 8, 10, 12, 15, 20, 24, 30, 40, 60, 120] := by
  have hdivisors : Nat.divisors 120 = [1, 2, 3, 4, 5, 6, 8, 10, 12, 15, 20, 24, 30, 40, 60, 120].toFinset := by decide
  rw [permittedRate_iff_mem_divisors (by omega), hdivisors, List.mem_toFinset]

theorem comparable_iff (fs fo : Nat) : comparable fs fo = true ↔ fo ∣ fs ∨ fs ∣ fo := by
  simp [comparable, Nat.dvd_iff_mod_eq_zero]

theorem label_lt_iff (a b : Label) :
    a.lt b = true ↔ a.second < b.second ∨ (a.second = b.second ∧ a.tick < b.tick) := by
  simp [Label.lt]

theorem label_next_of_last (fo x : Nat) : Label.next fo ⟨x, fo - 1⟩ = ⟨x + 1, 0⟩ :=
  if_neg (show ¬ fo - 1 + 1 < fo by omega)

theorem label_next_within {fo x y : Nat} (h : y + 1 < fo) : Label.next fo ⟨x, y⟩ = ⟨x, y + 1⟩ := if_pos h

theorem epochTick_of_dvd_rate {fs fo : Nat} (t : Nat) (h : fo ∣ fs) (hfs : 0 < fs) :
    epochTick fs fo t = t / (fs / fo) := if_pos (Nat.le_of_dvd hfs h)

theorem epochTick_of_rate_lt {fs fo : Nat} (t : Nat) (h : fs < fo) : epochTick fs fo t = t * (fo / fs) :=
  if_neg (Nat.not_le.mpr h)

end Sys2Proof.Machine

open Sys2Proof Sys2Proof.Machine

/-- Settles O32, one lemma for each clause. -/
theorem ratesAndEpochTicks : Obligations.RatesAndEpochTicks :=
  ⟨permittedRate_iff, permittedRate_50_iff, permittedRate_60_iff, comparable_iff, fun _ => rfl, label_lt_iff,
    label_next_of_last, fun _ _ _ => label_next_within, fun _ _ t h hfs _ => epochTick_of_dvd_rate t h hfs,
    fun _ _ t _ h => epochTick_of_rate_lt t h⟩

end

section
/-! PROOFS. ALTER_STREAM and RESUME_STREAM (R32, R34, O24). How a request row is refused and how one that changes a single
stream completes come first; then the checks of the two requests, each stated in the manual's terms. -/

namespace Sys2Proof.Machine

/-! ### Request rows -/

/-- A request row whose executor gives the part `q` completes with it. -/
theorem completes_of_serve {i : Instr} {s : State} {code : Nat} {run : List Byte → Part → Served} {e : RequestEntry}
    {q : Part} {holds : Part → Prop} (hi : exec i s = State.runRequest (request code run) s) (h : s.part.Runs code e)
    (hserve : serve code run id s.part = q) (hq : holds q) : Completes i s holds := by
  obtain ⟨hexec, -, -, hhigh⟩ := h
  refine ⟨{ s with part := q }, ?_, rfl, hq⟩
  rw [hi, runRequest_eq, started_executing hexec, request, live_of_high _ _ hhigh, hserve]

/-- A reply without results to a request that changed nothing is a refusal (R161). -/
theorem refusal_of_complete (e : RequestEntry) (st : Status) (p : Part) :
    Answered e st [] p (complete e st [] p) ∧
      complete e st [] p = { p with control := (complete e st [] p).control } :=
  ⟨complete_answers rfl (.refl _), complete_frame _ _ _ _⟩

theorem refuses_of_request {i : Instr} {s : State} {code : Nat} {run : List Byte → Part → Served} {e : RequestEntry}
    {st : Status} (hi : exec i s = State.runRequest (request code run) s) (h : s.part.Runs code e)
    (hl : paramsAllowed code e.params.length = some true) (hr : run e.params s.part = .refuse s.part st)
    (hs : st ≠ .done) : Refuses i e st s :=
  completes_of_serve hi h (serve_refuses h hl hr hs) (refusal_of_complete e st s.part)

theorem refuses_malformed_of_request {i : Instr} {s : State} {code : Nat} {run : List Byte → Part → Served}
    {e : RequestEntry} (hi : exec i s = State.runRequest (request code run) s) (h : s.part.Runs code e)
    (hl : paramsAllowed code e.params.length ≠ some true) : Refuses i e .malformed s :=
  completes_of_serve hi h (serve_malformed h hl) (refusal_of_complete e .malformed s.part)

/-- A request that changes the stream of one index leaves every other block and every other slot as it was. -/
theorem completes_of_onStream {i : Instr} {s : State} {code n : Nat} {run : List Byte → Part → Served} {e : RequestEntry}
    {f : Stream → Stream} {res : List Byte} {x : Stream} (hi : exec i s = State.runRequest (request code run) s)
    (h : s.part.Runs code e) (hl : paramsAllowed code e.params.length = some true) (hx : s.part.stream n = some x)
    (hr : run e.params s.part = .done (s.part.onStreams (StreamTable.onStream n f)) res) :
    Completes i s (fun t => Answered e .done res s.part t ∧
      t = { s.part with
        streams := { s.part.streams with slots := t.streams.slots }, control := t.control } ∧
      t.streams.slot n = ⟨some (f x), (s.part.streams.slot n).mark⟩ ∧
      ∀ j, j ≠ n → t.streams.slot j = s.part.streams.slot j) := by
  refine completes_of_request hi h hl hr ⟨complete_answers rfl (.refl _), ?frame, ?changed, fun j hj => ?others⟩
  case frame =>
    have hstreams : s.part.streams.onStream n f =
        { s.part.streams with slots := (s.part.streams.onStream n f).slots } := by
      unfold StreamTable.onStream
      split <;> rfl
    rw [complete_frame]
    simpa [Part.onStreams] using hstreams
  case changed => simpa using onStream_slot_same hx
  case others => simpa using onStream_slot_other hj.symm

/-! ### The parameters of ALTER_STREAM -/

/-- The length carries a wait class (R32). -/
abbrev CarriesClass (ps : List Byte) : Prop := ps.length = 3 ∨ ps.length = 6

/-- The length carries a layout (R32). -/
abbrev CarriesLayout (ps : List Byte) : Prop := ps.length = 5 ∨ ps.length = 6

/-- The layout an ALTER_STREAM carries stands behind the index, and behind the wait class where there is one. -/
abbrev carriedLayout (ps : List Byte) : Layout := layoutAt ps (if ps.length = 5 then 2 else 3)

/-- Index, wait class and layout of an ALTER_STREAM are within their ranges, as far as they are present (R32). -/
def AlterInRange (ps : List Byte) : Prop :=
  indexParam ps ≤ 511 ∧ (CarriesClass ps → (byteAt ps 2).toNat ≤ 3) ∧
    (CarriesLayout ps → (carriedLayout ps).p ≤ 24 ∧ (carriedLayout ps).a ≤ 16 ∧ (carriedLayout ps).d ≤ 4)

theorem layout_inRange_iff (y : Layout) : y.inRange = true ↔ y.p ≤ 24 ∧ y.a ≤ 16 ∧ y.d ≤ 4 := by
  simp [Layout.inRange, and_assoc]

theorem classNumber_of_val {b : Byte} {k : Fin 4} (h : b.toNat = k.val) : classNumber b = some k := by
  unfold classNumber laneNumber
  rw [h]
  fin_cases k <;> rfl

theorem classNumber_of_gt {b : Byte} (h : 3 < b.toNat) : classNumber b = none := by
  unfold classNumber laneNumber
  split
  case h_5 => rfl
  all_goals omega

theorem alterClass_of_val {ps : List Byte} {k : Fin 4} (h : CarriesClass ps → (byteAt ps 2).toNat = k.val) :
    alterClass ps = some (if CarriesClass ps then some k else none) := by
  unfold alterClass
  split
  case isTrue hc => rw [classNumber_of_val (h hc), Option.map_some]
  case isFalse => rfl

theorem alterClass_of_gt {ps : List Byte} (hc : CarriesClass ps) (h : 3 < (byteAt ps 2).toNat) : alterClass ps = none := by
  rw [alterClass, if_pos hc, classNumber_of_gt h, Option.map_none]

theorem alterLayout_eq (ps : List Byte) :
    alterLayout ps = if CarriesLayout ps then if (carriedLayout ps).inRange then some (some (carriedLayout ps)) else none
      else some none := by
  unfold alterLayout
  by_cases h5 : ps.length = 5 <;> simp [CarriesLayout, carriedLayout, h5]

theorem alterLayout_of_inRange {ps : List Byte} (h : CarriesLayout ps → (carriedLayout ps).inRange = true) :
    alterLayout ps = some (if CarriesLayout ps then some (carriedLayout ps) else none) := by
  rw [alterLayout_eq]
  split
  case isTrue hl => rw [if_pos (h hl)]
  case isFalse => rfl

theorem alterLayout_of_not_inRange {ps : List Byte} (hl : CarriesLayout ps) (h : (carriedLayout ps).inRange = false) :
    alterLayout ps = none := by
  rw [alterLayout_eq, if_pos hl, if_neg (by simp [h])]

/-- Within the ranges each part that is present is read, and one that is absent is read as absent. -/
theorem AlterInRange.parts {ps : List Byte} {k : Fin 4} (h : AlterInRange ps)
    (hk : CarriesClass ps → (byteAt ps 2).toNat = k.val) :
    alterClass ps = some (if CarriesClass ps then some k else none) ∧
      alterLayout ps = some (if CarriesLayout ps then some (carriedLayout ps) else none) := by
  obtain ⟨-, -, hlayout⟩ := h
  exact ⟨alterClass_of_val hk, alterLayout_of_inRange fun hl => (layout_inRange_iff _).mpr (hlayout hl)⟩

theorem AlterInRange.class_exists {ps : List Byte} (h : AlterInRange ps) :
    ∃ k : Fin 4, CarriesClass ps → (byteAt ps 2).toNat = k.val := by
  obtain ⟨-, hclass, -⟩ := h
  by_cases hc : CarriesClass ps
  · exact ⟨⟨(byteAt ps 2).toNat, Nat.lt_succ_of_le (hclass hc)⟩, fun _ => rfl⟩
  · exact ⟨0, fun h => absurd h hc⟩

/-! ### The checks of ALTER_STREAM, in their order -/

theorem runAlter_of_not_inRange {ps : List Byte} (p : Part) (h : ¬ AlterInRange ps) :
    runAlter ps p = .refuse p .range := by
  unfold runAlter
  split
  case h_2 => rfl
  case h_1 k y hk hy =>
    have hindex : 511 < indexParam ps := by
      by_contra hi
      refine h ⟨Nat.not_lt.mp hi, fun hc => ?_, fun hl => (layout_inRange_iff _).mp ?_⟩
      · by_contra hgt
        rw [alterClass_of_gt hc (Nat.not_le.mp hgt)] at hk
        cases hk
      · by_contra hout
        rw [alterLayout_of_not_inRange hl (Bool.eq_false_of_not_eq_true hout)] at hy
        cases hy
    exact if_pos hindex

theorem runAlter_of_vacant {ps : List Byte} {p : Part} (h : AlterInRange ps) (hx : p.stream (indexParam ps) = none) :
    runAlter ps p = .refuse p .state := by
  obtain ⟨k, hk⟩ := h.class_exists
  obtain ⟨hclass, hlayout⟩ := h.parts hk
  simp [runAlter, hclass, hlayout, Nat.not_lt.mpr h.1, hx]

theorem runAlter_of_retiring {ps : List Byte} {p : Part} {x : Stream} (h : AlterInRange ps)
    (hx : p.stream (indexParam ps) = some x) (hs : x.state = .retiring) : runAlter ps p = .refuse p .state := by
  obtain ⟨k, hk⟩ := h.class_exists
  obtain ⟨hclass, hlayout⟩ := h.parts hk
  simp [runAlter, hclass, hlayout, Nat.not_lt.mpr h.1, hx, hs]

theorem runAlter_of_accepted {ps : List Byte} {p : Part} {x : Stream} {k : Fin 4} (h : AlterInRange ps)
    (hk : CarriesClass ps → (byteAt ps 2).toNat = k.val) (hx : p.stream (indexParam ps) = some x)
    (hs : x.state ≠ .retiring) :
    runAlter ps p = .done (p.onStreams (StreamTable.onStream (indexParam ps) (Stream.altered
      (if CarriesClass ps then some k else none) (if CarriesLayout ps then some (carriedLayout ps) else none)))) [] := by
  obtain ⟨hclass, hlayout⟩ := h.parts hk
  simp [runAlter, hclass, hlayout, Nat.not_lt.mpr h.1, hx, hs]

theorem altered_eq {c l : Prop} [Decidable c] [Decidable l] {k : Fin 4} {y : Layout} {x : Stream}
    (hk : ¬ c → k = x.waitClass) :
    Stream.altered (if c then some k else none) (if l then some y else none) x =
      { x with waitClass := k, layout := if l then y else x.layout } := by
  have hclass : (if c then some k else none).getD x.waitClass = k := by
    by_cases hc : c
    · simp [hc]
    · simp [hc, hk hc]
  have hlayout : (if l then some y else none).getD x.layout = if l then y else x.layout := by
    split <;> rfl
  rw [Stream.altered, hclass, hlayout]

theorem alterStream_lengths (n : Nat) : paramsAllowed 0x21 n = some true ↔ n = 2 ∨ n = 3 ∨ n = 5 ∨ n = 6 := by
  simp [paramsAllowed, or_assoc]

/-! ### The checks of RESUME_STREAM, in their order -/

theorem runResume_of_not_inRange {ps : List Byte} (p : Part) (h : 511 < indexParam ps) :
    runResume ps p = .refuse p .range := if_pos h

theorem runResume_of_vacant {ps : List Byte} {p : Part} (h : indexParam ps ≤ 511) (hx : p.stream (indexParam ps) = none) :
    runResume ps p = .refuse p .state := by
  simp [runResume, Nat.not_lt.mpr h, hx]

theorem runResume_of_not_suspended {ps : List Byte} {p : Part} {x : Stream} (h : indexParam ps ≤ 511)
    (hx : p.stream (indexParam ps) = some x) (hs : x.state ≠ .suspended) : runResume ps p = .refuse p .state := by
  simp [runResume, Nat.not_lt.mpr h, hx, hs]

theorem runResume_of_suspended {ps : List Byte} {p : Part} {x : Stream} (h : indexParam ps ≤ 511)
    (hx : p.stream (indexParam ps) = some x) (hs : x.state = .suspended) :
    runResume ps p = .done (p.onStreams (StreamTable.onStream (indexParam ps)
      (fun x => { x with state := .armed, missCount := 0 }))) [] := by
  simp [runResume, Nat.not_lt.mpr h, hx, hs]

end Sys2Proof.Machine

open Sys2Proof Sys2Proof.Machine

/-- Settles O24: each clause is the request's check of that name, and an accepted request changes one stream. -/
theorem alterAndResumeStream : Obligations.AlterAndResumeStream := by
  refine ⟨fun s e hruns => ⟨fun hlen => ?_, fun hlen => ?_⟩, fun s e hruns hlen => ?_⟩
  · exact refuses_malformed_of_request rfl hruns (mt (alterStream_lengths _).mp hlen)
  · have hallowed := (alterStream_lengths _).mpr hlen
    refine ⟨fun hout => ?range, fun hin hx => ?vacant, fun x hin hx hs => ?retiring,
      fun x k hin hx hs hclass hkept => ?accepted⟩
    case range => exact refuses_of_request rfl hruns hallowed (runAlter_of_not_inRange _ hout) nofun
    case vacant => exact refuses_of_request rfl hruns hallowed (runAlter_of_vacant hin hx) nofun
    case retiring => exact refuses_of_request rfl hruns hallowed (runAlter_of_retiring hin hx hs) nofun
    case accepted =>
      rw [← altered_eq hkept]
      exact completes_of_onStream rfl hruns hallowed hx (runAlter_of_accepted hin hclass hx hs)
  · have hallowed : paramsAllowed 0x23 e.params.length = some true := by rw [hlen]; rfl
    refine ⟨fun hout => ?range, fun hin hx => ?vacant, fun x hin hx hs => ?state, fun x hin hx hs => ?accepted⟩
    case range => exact refuses_of_request rfl hruns hallowed (runResume_of_not_inRange _ hout) nofun
    case vacant => exact refuses_of_request rfl hruns hallowed (runResume_of_vacant hin hx) nofun
    case state => exact refuses_of_request rfl hruns hallowed (runResume_of_not_suspended hin hx hs) nofun
    case accepted => exact completes_of_onStream rfl hruns hallowed hx (runResume_of_suspended hin hx hs)

end

section
/-! PROOFS. SET_POOL_MARK and the low mark at the reset events (R127, R133, R134, O42). The low-mark evaluation comes
first, its two branches each an equation; then the request's range check and its effect; then what each reset event does
to the mark. -/

namespace Sys2Proof.Machine

/-! ### The low-mark evaluation -/

/-- A downward crossing raises POOL (R127). -/
theorem evalLowMark_of_crossing {p : Part} (habove : p.store.below = false) (hlow : p.store.isBelow = true) :
    evalLowMark p = raise .pool (p.onStore Store.evalQuiet) := by
  simp [evalLowMark, habove, hlow]

/-- A store that is BELOW already, or whose free count is not under its mark, is evaluated with no cause raised. -/
theorem evalLowMark_of_not_crossing {p : Part} (h : p.store.below = true ∨ p.store.isBelow = false) :
    evalLowMark p = p.onStore Store.evalQuiet := by
  rcases h with h | h <;> simp [evalLowMark, h]

/-- The evaluation either stores the new state alone, or raises POOL as well. -/
theorem evalLowMark_cases (p : Part) :
    evalLowMark p = p.onStore Store.evalQuiet ∨ evalLowMark p = raise .pool (p.onStore Store.evalQuiet) := by
  cases hb : p.store.below with
  | true => exact .inl (evalLowMark_of_not_crossing (.inl hb))
  | false =>
    cases hl : p.store.isBelow with
    | true => exact .inr (evalLowMark_of_crossing hb hl)
    | false => exact .inl (evalLowMark_of_not_crossing (.inr hl))

theorem evalLowMark_same (p : Part) : p.control.SameQueue (evalLowMark p).control := by
  rcases evalLowMark_cases p with h | h <;> rw [h]
  · exact .refl _
  · exact raise_same .pool (p.onStore Store.evalQuiet)

theorem evalLowMark_frame (p : Part) :
    evalLowMark p = { p with
      store := p.store.evalQuiet
      attention := (evalLowMark p).attention
      control := (evalLowMark p).control } := by
  rcases evalLowMark_cases p with h | h <;> rw [h]
  · rfl
  · exact raise_frame .pool (p.onStore Store.evalQuiet)

theorem evalLowMark_raises {p : Part} (habove : p.store.below = false) (hlow : p.store.isBelow = true) :
    Raised .pool p (evalLowMark p) := by
  rw [evalLowMark_of_crossing habove hlow]
  exact raise_raised .pool (p.onStore Store.evalQuiet)

theorem evalLowMark_attention {p : Part} (h : p.store.below = true ∨ p.store.isBelow = false) :
    (evalLowMark p).attention = p.attention := by
  rw [evalLowMark_of_not_crossing h, onStore_attention]

/-- Whether a cause has been raised shows in the pins and the Attention Unit alone. -/
theorem Raised.of_units {c : Cause} {p q r : Part} (h : Raised c p q) (hpins : r.pins = q.pins)
    (hatt : r.attention = q.attention) : Raised c p r := by
  simpa [Raised, attnLevel, hpins, hatt] using h

/-! ### The request -/

/-- The part with another low mark, the low-mark state not yet evaluated against it. -/
def Part.withMark (n : Nat) (p : Part) : Part := p.onStore (fun s => { s with lowMark := n })

theorem setPoolMark_length (n : Nat) : paramsAllowed 0x49 n = some true ↔ n = 2 := by
  simp [paramsAllowed]

theorem runSetPoolMark_of_gt {ps : List Byte} (p : Part) (h : 16384 < field ps 0 2) :
    runSetPoolMark ps p = .refuse p .range := if_pos h

theorem runSetPoolMark_of_le {ps : List Byte} (p : Part) (h : field ps 0 2 ≤ 16384) :
    runSetPoolMark ps p = .done (evalLowMark (p.withMark (field ps 0 2))) [] :=
  if_neg (Nat.not_lt.mpr h)

/-- A request that only puts a low mark in force changes the mark, the low-mark state, and what a raise and the reply
change. -/
theorem complete_evalLowMark_frame (e : RequestEntry) (n : Nat) (p : Part) :
    let t := complete e .done [] (evalLowMark (p.withMark n))
    t = { p with
      store := { p.store with lowMark := n, below := decide (p.store.freeList.length < n) }
      attention := t.attention
      control := t.control } := by
  have hreply := complete_frame e .done [] (evalLowMark (p.withMark n))
  have heval := evalLowMark_frame (p.withMark n)
  generalize evalLowMark (p.withMark n) = q at hreply heval ⊢
  generalize complete e .done [] q = t at hreply ⊢
  rw [hreply, heval]
  rfl

/-! ### The reset events -/

@[simp] theorem rebuild_lowMark (keep : Bool) (s : Store) : (Store.rebuild keep s).lowMark = s.lowMark := rfl

theorem powerOn_lowMark (st : Straps) (p : Part) : (powerOn st p).store.lowMark = 1024 := by
  simp [powerOn, Store.initial]

theorem pin_lowMark (st : Straps) (p : Part) : (pin st p).store.lowMark = 1024 := by
  simp [pin, Store.initial]

theorem restartFullEvent_lowMark (p : Part) : (restartFullEvent p).store.lowMark = 1024 := by
  simp [restartFullEvent, Store.initial]

theorem restartAlignmentEvent_lowMark (p : Part) : (restartAlignmentEvent p).store.lowMark = p.store.lowMark := by
  simp [restartAlignmentEvent]

/-! ### The RESTART rows -/

theorem fileStream_same (x : Filing) (p : Part) : p.control.SameQueue (fileStream x p).control := by
  unfold fileStream
  split
  case h_1 => exact .refl _
  case h_2 =>
    split
    case isTrue => exact .refl _
    case isFalse =>
      split
      case h_1 | h_2 => exact putMarked_same _ _ p
      case h_3 | h_4 | h_5 => exact .refl _

theorem reached_same (p : Part) : p.control.SameQueue p.reached.control :=
  live_keeps (P := fun q => p.control.SameQueue q.control) (.refl _) (by
    split
    · exact .refl _
    · exact fileStream_same _ { p with filing := none })

/-- A filing that arrives leaves the executing request where it is. -/
theorem Part.Runs.reached {p : Part} {code : Nat} {e : RequestEntry} (h : p.Runs code e) : p.reached.Runs code e := by
  obtain ⟨hqueue, -⟩ := reached_same p
  simpa [Part.Runs, hqueue] using h

/-- Completing a request, and what follows the reply, leave the store as the request left it. -/
theorem serve_store {code : Nat} {run : List Byte → Part → Served} {after : Part → Part} {e : RequestEntry}
    {p : Part} (h : p.Runs code e) (hl : paramsAllowed code e.params.length = some true)
    (hafter : ∀ q, (after q).store = q.store) : (serve code run after p).store = (run e.params p).part.store := by
  rw [serve_runs h hl]
  split
  · rw [hafter, complete_store]
  · rw [complete_store]

/-- The row of a RESTART's own scope runs it. -/
theorem restartRow_of_scope {other : Nat} {p : Part} {e : RequestEntry} {k : Byte} (h : p.Runs 0x02 e)
    (hps : e.params = [k]) (hk : k.toNat ≠ other) : restartRow other p = serve 0x02 runRestart handIfDue p := by
  obtain ⟨hexec, -⟩ := h
  have hbyte : byteAt [k] 0 = k := rfl
  simp [restartRow, Part.restartsAs, hexec, hps, hbyte, hk]

/-- A RESTART that the row of its scope runs leaves the store its reset event leaves. -/
theorem exec_restart_store {other : Nat} {s t : State} {e : RequestEntry} {k : Byte}
    (h : State.event (fun p => Part.live (restartRow other) p.started) s = .next t) (hruns : s.part.Runs 0x02 e)
    (hps : e.params = [k]) (hk : k.toNat ≠ other) :
    t.part.store = (runRestart [k] s.part.reached).part.store := by
  have hreached := hruns.reached
  obtain ⟨hexec, -, -, hhigh⟩ := id hreached
  rw [event_next h, started_executing hexec, live_of_high _ _ hhigh, restartRow_of_scope hreached hps hk,
    serve_store hreached (by rw [hps]; rfl) handIfDue_store, hps]

end Sys2Proof.Machine

open Sys2Proof Sys2Proof.Machine

/-- Settles O42: the request's checks and its effect, then the mark each reset event leaves. -/
theorem poolMarkTakesEffect : Obligations.PoolMarkTakesEffect := by
  refine ⟨fun s e hruns => ⟨fun hlen => ?malformed, fun hlen hrange => ?range, fun hlen hrange => ?accepted⟩,
    fun s t st h => ?supply, fun s t e hruns hps h => ?full, fun s t e hruns hps h => ?alignment⟩
  case malformed => exact refuses_malformed_of_request rfl hruns (mt (setPoolMark_length _).mp hlen)
  case range =>
    exact refuses_of_request rfl hruns ((setPoolMark_length _).mpr hlen) (runSetPoolMark_of_gt _ hrange) nofun
  case accepted =>
    have hdone := runSetPoolMark_of_le s.part hrange
    refine completes_of_request rfl hruns ((setPoolMark_length _).mpr hlen) hdone
      ⟨?answered, complete_evalLowMark_frame _ _ _, fun habove hlow => ?crossing, fun hquiet => ?quiet⟩
    case answered => exact complete_answers (evalLowMark_pins _) (evalLowMark_same (s.part.withMark _))
    case crossing =>
      have hraised := evalLowMark_raises (p := s.part.withMark (field e.params 0 2)) habove hlow
      exact hraised.of_units (complete_pins _ _ _ _) (complete_attention _ _ _ _)
    case quiet =>
      have hkept := evalLowMark_attention (p := s.part.withMark (field e.params 0 2)) hquiet
      exact (complete_attention _ _ _ _).trans hkept
  case supply =>
    rcases h with h | h <;> cases h
    · exact powerOn_lowMark st s.part
    · exact pin_lowMark st s.part
  case full =>
    rw [exec_restart_store (other := 1) h hruns hps (by decide)]
    exact restartFullEvent_lowMark _
  case alignment =>
    rw [exec_restart_store (other := 0) h hruns hps (by decide)]
    exact (restartAlignmentEvent_lowMark _).trans (by rw [reached_store])

end

section
/-! PROOFS. HOLD_EGRESS and RESUME_EGRESS (R148, O44). What the start of a record can do comes first: when the transmitter
stays as it is, which head it takes otherwise, and what a start leaves unchanged (R139, R140); then the two requests. -/

namespace Sys2Proof.Machine

/-! ### What forming a record leaves unchanged -/

theorem verify_only_store (n : Nat) (p : Part) : ∃ st, (verify n p).1 = { p with store := st } := by
  unfold verify
  dsimp only
  split
  case h_1 => exact ⟨p.store, rfl⟩
  case h_2 | h_3 => exact ⟨_, rfl⟩

theorem readMembers_only_store (ms : List Member) (p : Part) :
    ∃ st, (readMembers ms p).1 = { p with store := st } := by
  induction ms generalizing p with
  | nil => exact ⟨p.store, rfl⟩
  | cons m ms ih =>
    obtain ⟨read, hread⟩ := verify_only_store m.buffer p
    obtain ⟨rest, hrest⟩ := ih (verify m.buffer p).1
    exact ⟨rest, hrest.trans (by rw [hread])⟩

theorem startSet_only_store_egress (r : SetRecord) (n : Nat) (p : Part) :
    ∃ st eg, startSet r n p = { p with store := st, egress := eg } := by
  obtain ⟨st, hread⟩ := readMembers_only_store r.members p
  unfold startSet
  dsimp only
  rw [hread]
  exact ⟨st, _, rfl⟩

theorem startStrag_only_store_egress (t : StragglerRecord) (n : Nat) (p : Part) :
    ∃ st eg, startStrag t n p = { p with store := st, egress := eg } := by
  obtain ⟨st, hread⟩ := verify_only_store t.buffer p
  unfold startStrag
  dsimp only
  rw [hread]
  exact ⟨st, _, rfl⟩

@[simp] theorem countResend_hostHold (was : SendState) (e : Egress) : (countResend was e).hostHold = e.hostHold := by
  unfold countResend
  split <;> rfl

@[simp] theorem countResend_pausedAt (was : SendState) (e : Egress) : (countResend was e).pausedAt = e.pausedAt := by
  unfold countResend
  split <;> rfl

@[simp] theorem startSet_hostHold (r : SetRecord) (n : Nat) (p : Part) :
    (startSet r n p).egress.hostHold = p.egress.hostHold := by simp [startSet]

@[simp] theorem startSet_pausedAt (r : SetRecord) (n : Nat) (p : Part) :
    (startSet r n p).egress.pausedAt = p.egress.pausedAt := by simp [startSet]

@[simp] theorem startStrag_hostHold (t : StragglerRecord) (n : Nat) (p : Part) :
    (startStrag t n p).egress.hostHold = p.egress.hostHold := by simp [startStrag]

@[simp] theorem startStrag_pausedAt (t : StragglerRecord) (n : Nat) (p : Part) :
    (startStrag t n p).egress.pausedAt = p.egress.pausedAt := by simp [startStrag]

theorem startSet_inFlight (r : SetRecord) (n : Nat) (p : Part) : (startSet r n p).egress.inFlight ≠ none := nofun

theorem startStrag_inFlight (t : StragglerRecord) (n : Nat) (p : Part) : (startStrag t n p).egress.inFlight ≠ none :=
  nofun

/-! ### When a record starts -/

/-- The arbiter chooses nothing from two empty queues, and otherwise the head of a queue that holds one (R140). -/
theorem choose_cases (e : Egress) :
    (e.choose = none ∧ e.releaseQueue = [] ∧ e.stragglers = []) ∨
      (∃ n r q, e.choose = some (.set, n) ∧ e.releaseQueue = r :: q) ∨
      (∃ n t q, e.choose = some (.strag, n) ∧ e.stragglers = t :: q) := by
  unfold Egress.choose
  cases e.releaseQueue with
  | nil =>
    cases e.stragglers with
    | nil => exact .inl ⟨rfl, rfl, rfl⟩
    | cons t q => exact .inr (.inr ⟨_, t, q, rfl, rfl⟩)
  | cons r q =>
    cases e.stragglers with
    | nil => exact .inr (.inl ⟨_, r, q, rfl, rfl⟩)
    | cons t u =>
      dsimp only
      split_ifs
      · exact .inr (.inl ⟨_, r, q, rfl, rfl⟩)
      · exact .inr (.inr ⟨_, t, u, rfl, rfl⟩)
      · exact .inr (.inl ⟨_, r, q, rfl, rfl⟩)
      · exact .inr (.inr ⟨_, t, u, rfl, rfl⟩)

/-- While a record is in flight or a stop source is present, no record starts (R139). -/
theorem startRecord_of_busy {p : Part} (h : p.egress.inFlight.isSome = true ∨ p.stopped = true) : startRecord p = p :=
  if_pos (by rcases h with h | h <;> simp [h])

/-- A transmitter that is free to start takes the head of a queue, and nothing only where both are empty (R139). -/
theorem startRecord_of_free {p : Part} (hidle : p.egress.inFlight = none) (hgo : p.stopped = false)
    (hhigh : p.pins.resetLow = false) :
    (p.egress.releaseQueue = [] ∧ p.egress.stragglers = [] ∧ startRecord p = p) ∨
      (∃ n r q, p.egress.releaseQueue = r :: q ∧ startRecord p = startSet r n p) ∨
      (∃ n t q, p.egress.stragglers = t :: q ∧ startRecord p = startStrag t n p) := by
  rcases choose_cases p.egress with ⟨hnone, hsets, hstrags⟩ | ⟨n, r, q, hset, hsets⟩ | ⟨n, t, q, hstrag, hstrags⟩
  · exact .inl ⟨hsets, hstrags, by simp [startRecord, hnone]⟩
  · exact .inr (.inl ⟨n, r, q, hsets, by simp [startRecord, hidle, hgo, hhigh, hset, hsets]⟩)
  · exact .inr (.inr ⟨n, t, q, hstrags, by simp [startRecord, hidle, hgo, hhigh, hstrag, hstrags]⟩)

/-- All that the transmitter can do where a record may start. -/
theorem startRecord_cases (p : Part) :
    startRecord p = p ∨ (∃ n r, startRecord p = startSet r n p) ∨ ∃ n t, startRecord p = startStrag t n p := by
  unfold startRecord
  split
  case isTrue => exact .inl rfl
  case isFalse =>
    split
    case h_1 => exact .inr (.inl ⟨_, _, rfl⟩)
    case h_2 => exact .inr (.inr ⟨_, _, rfl⟩)
    case h_3 => exact .inl rfl

theorem startRecord_only_store_egress (p : Part) :
    ∃ st eg, startRecord p = { p with store := st, egress := eg } := by
  rcases startRecord_cases p with h | ⟨n, r, h⟩ | ⟨n, t, h⟩ <;> rw [h]
  · exact ⟨p.store, p.egress, rfl⟩
  · exact startSet_only_store_egress r n p
  · exact startStrag_only_store_egress t n p

@[simp] theorem startRecord_hostHold (p : Part) : (startRecord p).egress.hostHold = p.egress.hostHold := by
  rcases startRecord_cases p with h | ⟨n, r, h⟩ | ⟨n, t, h⟩ <;> simp [h]

@[simp] theorem startRecord_pausedAt (p : Part) : (startRecord p).egress.pausedAt = p.egress.pausedAt := by
  rcases startRecord_cases p with h | ⟨n, r, h⟩ | ⟨n, t, h⟩ <;> simp [h]

/-- Where one may start, a record is in flight afterwards unless both queues are empty. -/
theorem startRecord_inFlight_none_iff {p : Part} (hidle : p.egress.inFlight = none) (hgo : p.stopped = false)
    (hhigh : p.pins.resetLow = false) :
    (startRecord p).egress.inFlight = none ↔ p.egress.releaseQueue = [] ∧ p.egress.stragglers = [] := by
  rcases startRecord_of_free hidle hgo hhigh with ⟨hsets, hstrags, h⟩ | ⟨n, r, q, hsets, h⟩ | ⟨n, t, q, hstrags, h⟩ <;>
    rw [h]
  · simp [hidle, hsets, hstrags]
  · simp [startSet_inFlight, hsets]
  · simp [startStrag_inFlight, hstrags]

/-! ### The requests -/

/-- The part with the host hold present or absent, no record having started for it. -/
def Part.withHold (b : Bool) (p : Part) : Part := p.onEgress (fun e => { e with hostHold := b })

theorem withHold_stopped_of_other {p : Part} (b : Bool) (h : p.egress.pausedAt.isSome = true ∨ p.pins.isolate = true) :
    (p.withHold b).stopped = true := by
  rcases h with h | h <;> simp [Part.stopped, Part.withHold, h]

/-- With the host hold removed, the consumer pause and ISOLATE are the stop sources left (R138). -/
theorem withHold_false_stopped {p : Part} (hpause : p.egress.pausedAt = none) (hisolate : p.pins.isolate = false) :
    (p.withHold false).stopped = false := by
  simp [Part.stopped, Part.withHold, hpause, hisolate]

theorem runHoldEgress_eq (ps : List Byte) (p : Part) : runHoldEgress ps p = .done (p.withHold true) [] := rfl

theorem runResumeEgress_eq (ps : List Byte) (p : Part) :
    runResumeEgress ps p = .done (startRecord (p.withHold false)) [] := rfl

theorem holdEgress_length (ps : List Byte) : paramsAllowed 0x51 ps.length = some true ↔ ps = [] := by
  simp [paramsAllowed]

theorem resumeEgress_length (ps : List Byte) : paramsAllowed 0x52 ps.length = some true ↔ ps = [] := by
  simp [paramsAllowed]

/-- A removal of the host hold changes the store and the egress alone, and the reply the Control Link. -/
theorem complete_resumed_frame (e : RequestEntry) (p : Part) :
    let t := complete e .done [] (startRecord (p.withHold false))
    t = { p with store := t.store, egress := t.egress, control := t.control } := by
  obtain ⟨st, eg, hstart⟩ := startRecord_only_store_egress (p.withHold false)
  rw [hstart, complete_frame]
  rfl

theorem exec_holdEgress_completes {s : State} {e : RequestEntry} (h : s.part.Runs 0x51 e) (hps : e.params = []) :
    Completes .holdEgress s (fun t => Answered e .done [] s.part t ∧
      t = { s.part with egress := { s.part.egress with hostHold := true }, control := t.control }) :=
  completes_of_request rfl h ((holdEgress_length _).mpr hps) (runHoldEgress_eq _ _)
    ⟨complete_answers rfl (.refl _), complete_frame _ _ _ _⟩

theorem exec_resumeEgress_completes {s : State} {e : RequestEntry} {holds : Part → Prop} (h : s.part.Runs 0x52 e)
    (hps : e.params = []) (hq : holds (complete e .done [] (startRecord (s.part.withHold false)))) :
    Completes .resumeEgress s holds :=
  completes_of_request rfl h ((resumeEgress_length _).mpr hps) (runResumeEgress_eq _ _) hq

end Sys2Proof.Machine

open Sys2Proof Sys2Proof.Machine

/-- Settles O44: the hold alone is one field; its removal is followed by the start of a record, which the other stop
sources and a record in flight prevent. -/
theorem hostHoldFollowsRequests : Obligations.HostHoldFollowsRequests := by
  refine fun s e => ⟨fun hruns => ⟨fun hps => ?holdMalformed, fun hps => exec_holdEgress_completes hruns hps⟩,
    fun hruns => ⟨fun hps => ?resumeMalformed, fun hps => exec_resumeEgress_completes hruns hps
      ⟨?answered, ?hold, ?pause, complete_resumed_frame e s.part, fun hbusy => ?busy, fun hidle hpause hisolate => ?free⟩⟩⟩
  case holdMalformed => exact refuses_malformed_of_request rfl hruns (mt (holdEgress_length _).mp hps)
  case resumeMalformed => exact refuses_malformed_of_request rfl hruns (mt (resumeEgress_length _).mp hps)
  case answered =>
    exact complete_answers (startRecord_pins _) (by rw [startRecord_control]; exact .refl _)
  case hold => rw [complete_egress, startRecord_hostHold]; rfl
  case pause => rw [complete_egress, startRecord_pausedAt]; rfl
  case busy =>
    have hkept : startRecord (s.part.withHold false) = s.part.withHold false :=
      startRecord_of_busy (hbusy.imp_right (withHold_stopped_of_other false))
    rw [hkept, complete_egress, complete_store]
    exact ⟨rfl, rfl⟩
  case free =>
    obtain ⟨-, -, -, hhigh⟩ := hruns
    rw [complete_egress]
    exact startRecord_inFlight_none_iff (p := s.part.withHold false) hidle (withHold_false_stopped hpause hisolate) hhigh

end

section
/-! PROOFS. ATTN follows the enabled causes, and LANE pends while a lane delta stands (R172, R116, O53). What the two
laws read of a part comes first, and the operations of the Attention Unit; then, block by block, that each operation
keeps the laws: all but the Feed Lanes, ISOLATE and the reset events reach what the laws read by raises and clears alone.
The step comes last. -/

namespace Sys2Proof.Machine

/-- Each of the two laws that holds of `p` holds of `q`. -/
structure AttnKept (p q : Part) : Prop where
  attn : p.AttnFollows → q.AttnFollows
  lane : p.LanePends → q.LanePends

/-! ### What the laws read -/

theorem Part.LanePends.mono {p q : Part} (h : p.LanePends) (hlanes : q.lanes = p.lanes)
    (hpending : p.attention.pending.lane = true → q.attention.pending.lane = true) : q.LanePends := by
  rintro ⟨l, hl⟩
  refine hpending (h ⟨l, ?_⟩)
  rwa [Part.lane, ← hlanes]

theorem lanePends_of_pending {p : Part} (h : p.attention.pending.lane = true) : p.LanePends := fun _ => h

theorem lanePends_of_none {p : Part} (h : ∀ l, (p.lane l).deltas = ⟨false, false, false⟩) : p.LanePends :=
  fun ⟨l, hl⟩ => absurd (h l) hl

theorem attnFollows_of_low {p : Part} (h : p.pins.resetLow = true) : p.AttnFollows :=
  fun hhigh => absurd (h.symm.trans hhigh) nofun

/-- With no cause pending ATTN is not asserted. -/
theorem attnFollows_of_initial {p : Part} (h : p.attention = Attention.initial) : p.AttnFollows := by
  intro _
  simp [attnLevel, h, Attention.initial, CauseSet.inter, CauseSet.nonempty, CauseSet.empty]

theorem evalAttn_attnFollows (p : Part) : (evalAttn p).AttnFollows := fun _ => rfl

theorem LaneDeltas.any_iff (d : LaneDeltas) : d.any = true ↔ d ≠ ⟨false, false, false⟩ := by
  obtain ⟨c, o, h⟩ := d
  cases c <;> cases o <;> cases h <;> decide

theorem anyLaneDelta_iff (p : Part) : p.anyLaneDelta = true ↔ ∃ l, (p.lane l).deltas ≠ ⟨false, false, false⟩ := by
  simp only [Part.anyLaneDelta, Four.toList, List.any_cons, List.any_nil, Bool.or_false, Bool.or_eq_true,
    LaneDeltas.any_iff, Part.lane, Fin.exists_fin_succ, Fin.exists_fin_zero]
  simp [Four.get]

namespace AttnKept

theorem refl (p : Part) : AttnKept p p := ⟨id, id⟩

theorem trans {p q r : Part} (h : AttnKept p q) (k : AttnKept q r) : AttnKept p r :=
  ⟨k.attn ∘ h.attn, k.lane ∘ h.lane⟩

/-- The last operation first, as an operation on the outcome of others is written. -/
theorem after {p q r : Part} (k : AttnKept q r) (h : AttnKept p q) : AttnKept p r := h.trans k

/-- The laws read two pin levels, the pending causes, the mask, ATTN and the lane deltas, and nothing else. -/
theorem of_reads {p q : Part} (hreset : q.pins.resetLow = p.pins.resetLow) (hisolate : q.pins.isolate = p.pins.isolate)
    (hpending : q.attention.pending = p.attention.pending) (hmask : q.attention.mask = p.attention.mask)
    (hattn : q.attention.attn = p.attention.attn) (hdeltas : ∀ l, (q.lane l).deltas = (p.lane l).deltas) :
    AttnKept p q where
  attn h hhigh := by
    rw [hattn, h (hreset.symm.trans hhigh), attnLevel, attnLevel, hisolate, hpending, hmask]
  lane h := by
    rintro ⟨l, hl⟩
    rw [hpending]
    exact h ⟨l, hdeltas l ▸ hl⟩

/-- A change of other blocks. -/
theorem frame {p q : Part} (hpins : q.pins = p.pins) (hattention : q.attention = p.attention)
    (hlanes : q.lanes = p.lanes) : AttnKept p q :=
  of_reads (by rw [hpins]) (by rw [hpins]) (by rw [hattention]) (by rw [hattention]) (by rw [hattention])
    fun l => by rw [Part.lane, Part.lane, hlanes]

theorem onEngine (f : Engine → Engine) (p : Part) : AttnKept p (p.onEngine f) := frame rfl rfl rfl

theorem onSorter (f : Sorter → Sorter) (p : Part) : AttnKept p (p.onSorter f) := frame rfl rfl rfl

/-- Once ATTN has been evaluated it follows, whatever it was. -/
theorem of_evalAttn {p q : Part} (h : p.LanePends → q.LanePends) : AttnKept p (evalAttn q) :=
  ⟨fun _ => evalAttn_attnFollows q, fun hp => (h hp).mono rfl id⟩

theorem foldl {α : Type} {f : Part → α → Part} (h : ∀ p x, AttnKept p (f p x)) (l : List α) (p : Part) :
    AttnKept p (l.foldl f p) := by
  induction l generalizing p with
  | nil => exact refl p
  | cons x l ih => exact (h p x).trans (ih _)

end AttnKept

/-! ### The Attention Unit -/

theorem handNotice_attnKept (p : Part) : AttnKept p (handNotice p) :=
  .of_reads (by simp) (by simp) (by simp [handNotice]) (by simp [handNotice]) (by simp [handNotice])
    fun l => by simp [Part.lane]

theorem makePending_attnKept (c : Cause) (p : Part) : AttnKept p (makePending c p) :=
  .of_evalAttn fun h => h.mono rfl (CauseSet.has_put_true (c := .lane))

theorem raiseQuiet_attnKept (c : Cause) (p : Part) : AttnKept p (raiseQuiet c p) := by
  unfold raiseQuiet
  split
  · exact .refl p
  · exact makePending_attnKept c p

theorem raise_attnKept (c : Cause) (p : Part) : AttnKept p (raise c p) := by
  unfold raise
  (repeat' split)
  · exact .refl p
  · exact makePending_attnKept c p
  · exact (makePending_attnKept c p).trans (handNotice_attnKept _)

/-- A raise that follows a change of other blocks. -/
theorem AttnKept.raised {p q : Part} (c : Cause) (h : AttnKept p q) : AttnKept p (raise c q) :=
  h.trans (raise_attnKept c q)

theorem raise_lane_pending (p : Part) : (raise .lane p).attention.pending.lane = true := by
  rw [(raise_raised .lane p).1]
  rfl

theorem put_lane_of_ne {c : Cause} (hc : c ≠ .lane) (v : Bool) (s : CauseSet) : (s.put v c).lane = s.lane := by
  cases c with
  | lane => exact absurd rfl hc
  | time | pool | stream | stranger | egress => rfl

theorem clearCause_attnKept {c : Cause} (hc : c ≠ .lane) (p : Part) : AttnKept p (clearCause c p) :=
  .of_evalAttn fun h => h.mono rfl (put_lane_of_ne hc false _).trans

theorem openGate_attnKept (p : Part) : AttnKept p (openGate p) := .of_reads rfl rfl rfl rfl rfl fun _ => rfl

theorem handIfDue_attnKept (p : Part) : AttnKept p (handIfDue p) := by
  unfold handIfDue
  split
  · exact handNotice_attnKept p
  · exact .refl p

/-! ### The Payload Store -/

theorem evalLowMark_attnKept (p : Part) : AttnKept p (evalLowMark p) := by
  have hquiet : AttnKept p (p.onStore Store.evalQuiet) := .frame rfl rfl rfl
  unfold evalLowMark
  split
  · exact hquiet.raised .pool
  · exact hquiet

theorem claim_attnKept (p : Part) : AttnKept p (claim p).1 := by
  unfold claim
  split
  · exact .raised .pool (.frame rfl rfl rfl)
  · exact .after (evalLowMark_attnKept _) (.frame rfl rfl rfl)

theorem returnBuffers_attnKept (ns : List Nat) (p : Part) : AttnKept p (returnBuffers ns p) := .frame rfl rfl rfl

theorem withdrawBuffer_attnKept (n : Nat) (p : Part) : AttnKept p (withdrawBuffer n p) :=
  .after (evalLowMark_attnKept _) (.frame rfl rfl rfl)

theorem sweepVisit_attnKept (left : Nat) (p : Part) : AttnKept p (sweepVisit left p) := by
  induction left generalizing p with
  | zero => exact .frame rfl rfl rfl
  | succ left ih =>
    unfold sweepVisit
    split
    · exact withdrawBuffer_attnKept _ p
    · exact .after (ih _) (.frame rfl rfl rfl)

theorem sweepOn_attnKept (p : Part) : AttnKept p (sweepOn p) := sweepVisit_attnKept _ p

theorem sweepVerdict_attnKept (pass : Bool) (p : Part) : AttnKept p (sweepVerdict pass p) := by
  unfold sweepVerdict
  split
  · exact .refl p
  · refine .after (sweepOn_attnKept _) ?_
    cases pass <;> exact .frame rfl rfl rfl

/-! ### The Stream Table -/

theorem putMarked_attnKept (i : Nat) (st : Option Stream) (p : Part) : AttnKept p (putMarked i st p) :=
  .raised .stream (.frame rfl rfl rfl)

theorem fileStream_attnKept (x : Filing) (p : Part) : AttnKept p (fileStream x p) := by
  unfold fileStream
  split
  case h_1 => exact .refl p
  case h_2 st _ =>
    split
    case isTrue => exact .refl p
    case isFalse =>
      cases st.state with
      | armed | stale => exact putMarked_attnKept _ _ p
      | live | suspended | retiring => exact .frame rfl rfl rfl

theorem sendFiling_attnKept (x : Filing) (p : Part) : AttnKept p (sendFiling x p) := by
  unfold sendFiling
  split
  · exact .frame rfl rfl rfl
  · exact .after (fileStream_attnKept x _) (.frame rfl rfl rfl)

theorem reached_attnKept (p : Part) : AttnKept p p.reached := by
  refine live_keeps (.refl p) ?_
  split
  · exact .refl p
  · exact .after (fileStream_attnKept _ _) (.frame rfl rfl rfl)

theorem started_attnKept (p : Part) : AttnKept p p.started := live_keeps (.refl p) (.frame rfl rfl rfl)

theorem refDec_attnKept (i : Nat) (p : Part) : AttnKept p (refDec i p) := by
  unfold refDec
  (repeat' split)
  · exact .refl p
  · exact putMarked_attnKept _ _ p
  · exact .frame rfl rfl rfl

theorem refDecAll_attnKept (is : List Nat) (p : Part) : AttnKept p (refDecAll is p) :=
  .foldl (fun p i => refDec_attnKept i p) is p

theorem reportMiss_attnKept (i n : Nat) (p : Part) : AttnKept p (reportMiss i n p).1 := by
  unfold reportMiss
  split
  case h_1 => exact .refl p
  case h_2 st _ =>
    split
    case isTrue => exact .refl p
    case isFalse =>
      cases st.state with
      | armed | live =>
        dsimp only
        split
        · exact putMarked_attnKept _ _ p
        · exact .frame rfl rfl rfl
      | stale | suspended | retiring => exact .frame rfl rfl rfl

theorem sighting_attnKept (n : Nat) (l : LaneId) (own : Label) (p : Part) : AttnKept p (sighting n l own p) := by
  unfold sighting
  (repeat' split)
  · exact .frame rfl rfl rfl
  · exact .raised .stranger (.frame rfl rfl rfl)
  · exact .raised .stranger (.frame rfl rfl rfl)

/-! ### The Set Link -/

theorem startRecord_attnKept (p : Part) : AttnKept p (startRecord p) := .frame (by simp) (by simp) (by simp)

theorem endSet_attnKept (r : SetRecord) (p : Part) : AttnKept p (endSet r p) :=
  .after (refDecAll_attnKept _ _) (.frame rfl rfl rfl)

theorem endStrag_attnKept (t : StragglerRecord) (p : Part) : AttnKept p (endStrag t p) :=
  .after (refDec_attnKept _ _) (.frame rfl rfl rfl)

theorem overridePause_attnKept (p : Part) : AttnKept p (overridePause p) :=
  .after (startRecord_attnKept _) (.raised .egress (.frame rfl rfl rfl))

theorem pauseLimitExpiry_attnKept (p : Part) : AttnKept p (pauseLimitExpiry p) := by
  unfold pauseLimitExpiry
  split
  · exact overridePause_attnKept p
  · exact .refl p

theorem stragglerOverflow_attnKept (p : Part) : AttnKept p (stragglerOverflow p) :=
  .raised .egress (.frame rfl rfl rfl)

/-! ### The Epoch Table -/

theorem dropOldest_attnKept (how : Leaving) (e : Epoch) (p : Part) : AttnKept p (dropOldest how e p) :=
  .raised .egress (.after (refDecAll_attnKept _ _) (.frame rfl rfl rfl))

theorem emptyOldest_attnKept (how : Leaving) (e : Epoch) (x : Part × Tally) :
    AttnKept x.1 (emptyOldest how e x).1 := by
  unfold emptyOldest
  (repeat' split)
  · exact .frame (by simp) (by simp) (by simp)
  · exact .frame (by simp) (by simp) (by simp)
  · exact dropOldest_attnKept how e x.1

theorem emptyEntries_attnKept (how : Leaving) (es : List Epoch) (x : Part × Tally) :
    AttnKept x.1 (emptyEntries how es x).1 := by
  unfold emptyEntries
  induction es generalizing x with
  | nil => exact .refl x.1
  | cons e es ih => exact .after (ih _) (emptyOldest_attnKept how e x)

theorem attemptRelease_attnKept (p : Part) : AttnKept p (attemptRelease p) := .frame (by simp) (by simp) (by simp)

theorem doWork_attnKept (w : Work) (p : Part) : AttnKept p (doWork w p).1 := by
  cases w with
  | expire l =>
    unfold doWork
    dsimp only
    (repeat' split) <;> exact .frame rfl rfl rfl
  | miss i n => exact reportMiss_attnKept i n p
  | withdraw i => exact .frame rfl rfl rfl

theorem doAll_attnKept (fuel : Nat) (ws : List Work) (p : Part) : AttnKept p (doAll fuel ws p) := by
  induction fuel generalizing ws p with
  | zero => exact .refl p
  | succ fuel ih =>
    cases ws with
    | nil => exact .refl p
    | cons w ws => exact .after (ih _ _) (doWork_attnKept w p)

theorem completeAll_attnKept (p : Part) : AttnKept p (completeAll p) := .frame rfl rfl rfl

theorem carryOut_attnKept (ws : List Work) (p : Part) : AttnKept p (carryOut ws p) :=
  .after (attemptRelease_attnKept _) (doAll_attnKept _ ws p)

theorem deadlineExpiry_attnKept (l : Label) (p : Part) : AttnKept p (deadlineExpiry l p) := by
  unfold deadlineExpiry
  (repeat' split)
  · exact .refl p
  · exact carryOut_attnKept _ p
  · exact .refl p

theorem makeRoom_attnKept (l : Label) (p : Part) : AttnKept p (makeRoom l p) := by
  unfold makeRoom
  (repeat' split)
  · exact .refl p
  · exact .refl p
  · exact .after (.onEngine _ _) (dropOldest_attnKept _ _ p)

theorem openEntry_attnKept (by_ : OpenedBy) (l : Label) (p : Part) : AttnKept p (openEntry by_ l p) :=
  .frame rfl rfl rfl

theorem skipLabel_attnKept (p : Part) : AttnKept p (skipLabel p) := .raised .egress (.frame rfl rfl rfl)

theorem takeStrobe_attnKept (l : Label) (p : Part) : AttnKept p (takeStrobe l p) := by
  refine (AttnKept.onEngine (Engine.advance l) p).trans ?_
  unfold takeStrobe
  dsimp only
  (repeat' split)
  · exact .after (attemptRelease_attnKept _) (.frame rfl rfl rfl)
  · exact .refl _
  · have hopened := (makeRoom_attnKept l (p.onEngine (Engine.advance l))).trans (openEntry_attnKept .strobe l _)
    exact .after (attemptRelease_attnKept _) (.after (.onEngine _ _) hopened)
  · exact skipLabel_attnKept _

theorem strobe_attnKept (p : Part) : AttnKept p (strobe p) := by
  unfold strobe
  split
  · exact .refl p
  · exact takeStrobe_attnKept _ p

theorem strobeRun_attnKept (n : Nat) (p : Part) : AttnKept p (strobeRun n p) := by
  induction n generalizing p with
  | zero => exact .refl p
  | succ n ih =>
    unfold strobeRun
    split
    · exact .refl p
    · exact .after (ih _) (takeStrobe_attnKept _ p)

theorem expireDue_attnKept (p : Part) : AttnKept p (expireDue p) := carryOut_attnKept _ p

theorem takeForwardStep_attnKept (p : Part) : AttnKept p (takeForwardStep p) := by
  have hfree : AttnKept p p.useFree := .frame rfl rfl rfl
  refine .after (expireDue_attnKept _) (.after (strobeRun_attnKept _ _) ?_)
  split
  · exact .after (expireDue_attnKept _) hfree
  · exact hfree

theorem resumeEngine_attnKept (p : Part) : AttnKept p (resumeEngine p) := by
  unfold resumeEngine
  split
  case h_1 | h_2 | h_3 => exact .refl p
  case h_4 =>
    split
    · refine .after (doAll_attnKept _ _ _) (.after (completeAll_attnKept _) ?_)
      split
      · exact .frame rfl rfl rfl
      · exact .raised .egress (.frame rfl rfl rfl)
    · exact .frame rfl rfl rfl

/-! ### The realignment -/

theorem realignTake_attnKept (e : Epoch) (w : Realign) (p : Part) : AttnKept p (realignTake e w p) := by
  unfold realignTake
  exact .after (.onEngine _ _) (emptyOldest_attnKept .realign e (p, w.tally))

theorem realignRun_attnKept (n : Nat) (p : Part) : AttnKept p (realignRun n p) := by
  induction n generalizing p with
  | zero => exact .refl p
  | succ n ih =>
    unfold realignRun
    split
    · exact .after (ih _) (realignTake_attnKept _ _ p)
    · exact .refl p

theorem realignOn_attnKept (p : Part) : AttnKept p (realignOn p) := by
  unfold realignOn
  split
  · exact .after (startRecord_attnKept _) (.after (realignRun_attnKept _ p.useFree) (.frame rfl rfl rfl))
  · exact .refl p

theorem beginRealign_attnKept (c : AlignConfig) (p : Part) : AttnKept p (beginRealign c p) :=
  .after (realignOn_attnKept _) (.frame rfl rfl rfl)

theorem finishRealign_attnKept (r : Realign) (p : Part) : AttnKept p (finishRealign r p) :=
  .frame (by simp) (by simp) (by simp)

theorem realignmentComplete_attnKept (p : Part) : AttnKept p (realignmentComplete p) := by
  unfold realignmentComplete
  dsimp only
  split
  · exact .refl p
  · exact .after (finishRealign_attnKept _ _) (realignRun_attnKept _ p)

theorem recordEnd_attnKept (p : Part) : AttnKept p (recordEnd p) := by
  unfold recordEnd
  (repeat' split)
  · exact .refl p
  · exact .after (startRecord_attnKept _) (.after (realignOn_attnKept _)
      (.after (attemptRelease_attnKept _) (endSet_attnKept _ p)))
  · exact .after (startRecord_attnKept _) (endStrag_attnKept _ p)
  · exact .refl p
  · exact .refl p

/-! ### The Time Base -/

theorem setTimeDelta_attnKept (f : TimeDeltas → TimeDeltas) (p : Part) : AttnKept p (setTimeDelta f p) :=
  .raised .time (.frame rfl rfl rfl)

theorem portChanged_attnKept (r : RefPort) (p : Part) : AttnKept p (portChanged r p) := by
  cases r <;> rw [portChanged] <;> exact setTimeDelta_attnKept _ p

theorem stateChanged_attnKept (p : Part) : AttnKept p (stateChanged p) := by
  rw [stateChanged]
  exact setTimeDelta_attnKept _ p

theorem onPort_attnKept (r : RefPort) (f : Port → Port) (p : Part) : AttnKept p (p.onPort r f) :=
  .frame (by simp) (by simp) (by simp)

theorem stepTo_attnKept (old : PartTime) (n : Nat) (p : Part) : AttnKept p (stepTo old n p) := by
  have hjump : AttnKept p (jumpTo n p) := .after (setTimeDelta_attnKept _ _) (.frame rfl rfl rfl)
  unfold stepTo
  split
  · exact .after (takeForwardStep_attnKept _) hjump
  · exact hjump

theorem measure_attnKept (r : RefPort) (p : Part) : AttnKept p (Machine.measure r p) := by
  unfold Machine.measure takeOffset
  dsimp only
  (repeat' split)
  · exact .after (stepTo_attnKept _ _ _) (.frame rfl rfl rfl)
  · exact .frame rfl rfl rfl
  · exact .refl p

theorem leaveIdle_attnKept (p : Part) : AttnKept p (leaveIdle p) := .frame (by simp) (by simp) (by simp)

theorem leaveUnset_attnKept (r : RefPort) (p : Part) : AttnKept p (leaveUnset r p) := by
  unfold leaveUnset
  split
  · exact .refl p
  · exact .after (leaveIdle_attnKept _) (.after (stateChanged_attnKept _) (.frame rfl rfl rfl))

theorem relock_attnKept (r : RefPort) (p : Part) : AttnKept p (relock r p) :=
  .after (measure_attnKept r _) (.after (stateChanged_attnKept _) (.frame rfl rfl rfl))

theorem enterHoldover_attnKept (p : Part) : AttnKept p (enterHoldover p) :=
  .after (stateChanged_attnKept _) (.frame rfl rfl rfl)

theorem switchTo_attnKept (r : RefPort) (p : Part) : AttnKept p (switchTo r p) :=
  .after (measure_attnKept r _) (.frame rfl rfl rfl)

theorem lost_attnKept (r : RefPort) (p : Part) : AttnKept p (lost r p) := by
  unfold lost
  (repeat' split)
  · exact switchTo_attnKept _ p
  · exact enterHoldover_attnKept p
  · exact .refl p

theorem gained_attnKept (r : RefPort) (p : Part) : AttnKept p (gained r p) := by
  unfold gained
  cases p.timeBase.state with
  | tracking => exact .refl p
  | unset =>
    dsimp only
    split
    · exact leaveUnset_attnKept r p
    · exact .refl p
  | holdover | expired =>
    dsimp only
    split
    · exact relock_attnKept r p
    · exact .refl p

theorem departed_attnKept (r : RefPort) (was : PortState) (p : Part) : AttnKept p (departed r was p) := by
  unfold departed
  split
  · exact .after (lost_attnKept r _) (portChanged_attnKept r p)
  · exact .refl p

/-- A good pulse that qualifies the port ends a loss, and one of the selected reference is measured. -/
theorem pulse_attnKept (r : RefPort) (p : Part) : AttnKept p (pulse r p) := by
  by_cases hs : (p.port r).state = .silent
  case pos =>
    simp only [pulse, hs]
    exact .after (portChanged_attnKept r _) (onPort_attnKept r _ p)
  case neg =>
    cases hb : (p.port r).badReason p.timeBase.cfg.pulseTolerance p.clock with
    | some why =>
      rw [pulse_bad hs hb]
      exact .after (departed_attnKept r _ _) (onPort_attnKept r _ p)
    | none =>
      rw [pulse_good hs hb]
      refine (onPort_attnKept r (Port.goodPulse p.clock p.timeBase.cfg.qualifyCount) p).trans ?_
      dsimp only
      (repeat' split)
      · exact .after (gained_attnKept r _) (portChanged_attnKept r _)
      · exact .refl _
      · exact measure_attnKept r _
      · exact .refl _

theorem missingPulse_attnKept (r : RefPort) (p : Part) : AttnKept p (missingPulse r p) := by
  unfold missingPulse
  split
  · exact .after (departed_attnKept r _ _) (onPort_attnKept r _ p)
  · exact .refl p

theorem silence_attnKept (r : RefPort) (p : Part) : AttnKept p (silence r p) := by
  have hsilent := (onPort_attnKept r Port.silence p).trans (portChanged_attnKept r _)
  unfold silence
  dsimp only
  (repeat' split)
  · exact .after (lost_attnKept r _) hsilent
  · exact hsilent
  · exact .refl p

theorem checkLimit_attnKept (p : Part) : AttnKept p (checkLimit p) := by
  unfold checkLimit
  split
  · exact .after (stateChanged_attnKept _) (.frame rfl rfl rfl)
  · exact .refl p

theorem holdoverSecond_attnKept (p : Part) : AttnKept p (holdoverSecond p) := by
  unfold holdoverSecond
  split
  · exact .after (checkLimit_attnKept _) (.frame rfl rfl rfl)
  · exact .refl p

theorem promote_attnKept (qualify : Nat) (r : RefPort) (p : Part) : AttnKept p (promote qualify r p) := by
  unfold promote
  split
  · exact .after (portChanged_attnKept r _) (onPort_attnKept r _ p)
  · exact .refl p

theorem reselect_attnKept (p : Part) : AttnKept p (reselect p) := by
  unfold reselect
  cases p.timeBase.state with
  | tracking => exact .refl p
  | unset =>
    dsimp only
    split
    · exact .refl p
    · exact leaveUnset_attnKept _ p
  | holdover | expired =>
    dsimp only
    split
    · exact .refl p
    · exact relock_attnKept _ p

theorem configureReference_attnKept (c : RefConfig) (p : Part) : AttnKept p (configureReference c p) :=
  .after (reselect_attnKept _) (.after (checkLimit_attnKept _)
    (.after (promote_attnKept _ .B _) (.after (promote_attnKept _ .A _) (.frame rfl rfl rfl))))

theorem selectReference_attnKept (r : RefPort) (p : Part) : AttnKept p (selectReference r p) := by
  unfold selectReference
  split
  · exact leaveUnset_attnKept r p
  · exact switchTo_attnKept r p
  · exact relock_attnKept r p
  · exact relock_attnKept r p

/-! ### The Feed Lanes -/

theorem onLane_deltas {l : LaneId} {f : Lane → Lane} (hf : ∀ x, (f x).deltas = x.deltas) (p : Part) (k : LaneId) :
    ((p.onLane l f).lane k).deltas = (p.lane k).deltas := by
  by_cases h : l = k
  · rw [← h, onLane_lane_same, hf]
  · rw [onLane_lane_other f p h]

/-- A change of a lane that leaves its deltas. -/
theorem onLane_attnKept (l : LaneId) {f : Lane → Lane} (p : Part) (hf : ∀ x, (f x).deltas = x.deltas) :
    AttnKept p (p.onLane l f) :=
  .of_reads rfl rfl rfl rfl rfl (onLane_deltas hf p)

/-- A delta that is set meets LANE pending already where the lane's set was not empty, and raises it where it was
(R116). -/
theorem setLaneDelta_attnKept (l : LaneId) (f : LaneDeltas → LaneDeltas) (p : Part) :
    AttnKept p (setLaneDelta l f p) := by
  have hattn : p.AttnFollows → (p.onLane l (fun x => { x with deltas := f x.deltas })).AttnFollows := id
  unfold setLaneDelta
  dsimp only
  split
  case isTrue hany =>
    exact ⟨hattn, fun h => lanePends_of_pending (h ⟨l, (LaneDeltas.any_iff _).mp hany⟩)⟩
  case isFalse => exact ⟨(raise_attnKept .lane _).attn ∘ hattn, fun _ => lanePends_of_pending (raise_lane_pending _)⟩

theorem startFlow_attnKept (l : LaneId) (p : Part) : AttnKept p (startFlow l p) := by
  have hstart := onLane_attnKept l (f := Lane.start) p fun _ => rfl
  unfold startFlow
  (repeat' split)
  · exact .after (setLaneDelta_attnKept l _ _) hstart
  · exact hstart
  · exact .refl p

theorem startFlows_attnKept (p : Part) : AttnKept p (startFlows p) :=
  .after (startFlow_attnKept 3 _) (.after (startFlow_attnKept 2 _)
    (.after (startFlow_attnKept 1 _) (startFlow_attnKept 0 p)))

theorem evalFlow_attnKept (l : LaneId) (p : Part) : AttnKept p (evalFlow l p) :=
  .after (startFlow_attnKept l _) (onLane_attnKept l p (fun x => by rw [evalFlow_eq]))

theorem flowFrameEnd_attnKept (l : LaneId) (p : Part) : AttnKept p (flowFrameEnd l p) := by
  unfold flowFrameEnd
  split
  · exact .refl p
  · exact .after (startFlow_attnKept l _) (onLane_attnKept l p fun _ => rfl)

theorem countLane_attnKept (l : LaneId) (f : LaneCounters → LaneCounters) (p : Part) : AttnKept p (countLane l f p) :=
  onLane_attnKept l p fun _ => rfl

theorem returnClaimed_attnKept (n : Option Nat) (p : Part) : AttnKept p (returnClaimed n p) :=
  .frame (by simp) (by simp) (by simp)

theorem endGood_attnKept (l : LaneId) (n : Option Nat) (len : Nat) (p : Part) : AttnKept p (endGood l n len p) := by
  unfold endGood
  (repeat' split)
  · exact countLane_attnKept l _ p
  · exact .after (evalFlow_attnKept l _) (.after (onLane_attnKept l _ fun _ => rfl) (.frame rfl rfl rfl))
  · exact .after (setLaneDelta_attnKept l _ _) (.after (returnBuffers_attnKept _ _) (countLane_attnKept l _ p))

theorem laneEvent_attnKept (l : LaneId) (p : Part) (e : RxEvent) : AttnKept p (laneEvent l p e) := by
  cases e <;> rw [laneEvent]
  case tooLong | wrongKind => exact countLane_attnKept l _ p
  case started => exact .after (onLane_attnKept l _ fun _ => rfl) (claim_attnKept p)
  case bodyByte => split <;> exact .frame rfl rfl rfl
  case badCheck =>
    exact .after (onLane_attnKept l _ fun _ => rfl) (.after (returnClaimed_attnKept _ _) (countLane_attnKept l _ p))
  case whole => exact .after (onLane_attnKept l _ fun _ => rfl) (endGood_attnKept l _ _ p)

theorem laneByte_attnKept (l : LaneId) (b : Byte) (p : Part) : AttnKept p (laneByte l b p) := by
  unfold laneByte
  split
  · exact .after (.foldl (laneEvent_attnKept l) _ _) (onLane_attnKept l p fun _ => rfl)
  · exact .refl p

theorem laneGap_attnKept (l : LaneId) (p : Part) : AttnKept p (laneGap l p) := by
  unfold laneGap
  split
  · refine .after (onLane_attnKept l _ fun _ => rfl) ?_
    split
    · exact .refl p
    · exact .refl p
    · exact countLane_attnKept l _ p
    · exact .after (returnClaimed_attnKept _ _) (countLane_attnKept l _ p)
  · exact .refl p

theorem abandonFrame_attnKept (l : LaneId) (p : Part) : AttnKept p (abandonFrame l p) := by
  refine .after (onLane_attnKept l _ fun _ => rfl) ?_
  split
  · exact .refl p
  · exact .refl p
  · exact .refl p
  · exact .after (returnClaimed_attnKept _ _) (countLane_attnKept l _ p)

theorem abandonFrames_attnKept (p : Part) : AttnKept p (abandonFrames p) :=
  .after (abandonFrame_attnKept 3 _) (.after (abandonFrame_attnKept 2 _)
    (.after (abandonFrame_attnKept 1 _) (abandonFrame_attnKept 0 p)))

theorem disableLane_attnKept (l : LaneId) (p : Part) : AttnKept p (disableLane l p) :=
  .after (startFlow_attnKept l _) (.after (onLane_attnKept l _ fun _ => rfl) (abandonFrame_attnKept l p))

theorem configureLane_attnKept (l : LaneId) (on : Bool) (high low gap : Nat) (p : Part) :
    AttnKept p (configureLane l on high low gap p) := by
  have hmarks := onLane_attnKept l (f := fun x => { x with highMark := high, lowMark := low, gapMs := gap }) p
    fun _ => rfl
  refine hmarks.trans ?_
  unfold configureLane
  dsimp only
  (repeat' split)
  · exact evalFlow_attnKept l _
  · exact .after (evalFlow_attnKept l _) (onLane_attnKept l _ fun _ => rfl)
  · exact disableLane_attnKept l _
  · exact .refl _

theorem setCarrier_attnKept (l : LaneId) (high : Bool) (p : Part) : AttnKept p (p.setCarrier l high) :=
  .of_reads rfl rfl rfl rfl rfl fun _ => rfl

theorem carrierChange_attnKept (l : LaneId) (high : Bool) (p : Part) : AttnKept p (carrierChange l high p) := by
  unfold carrierChange
  (repeat' split)
  · exact .refl p
  · exact setCarrier_attnKept l high p
  · exact .after (setLaneDelta_attnKept l _ _) (setCarrier_attnKept l high p)

theorem setLoopback_attnKept (l : LaneId) (on : Bool) (p : Part) : AttnKept p (setLoopback l on p) := by
  unfold setLoopback
  (repeat' split)
  · exact .refl p
  · exact .after (setLaneDelta_attnKept l _ _) (.after (onLane_attnKept l _ fun _ => rfl) (abandonFrame_attnKept l p))
  · exact .after (startFlow_attnKept l _) (.after (setLaneDelta_attnKept l _ _) (onLane_attnKept l p fun _ => rfl))

/-- LANE is cleared only where every delta set is empty (R116). -/
theorem clearLaneCause_attnKept (p : Part) : AttnKept p (clearLaneCause p) := by
  unfold clearLaneCause
  split
  case isTrue => exact .refl p
  case isFalse hnone => exact .of_evalAttn fun _ hany => absurd ((anyLaneDelta_iff p).mpr hany) hnone

/-! ### The Frame Sorter -/

theorem takeHead_attnKept (l : LaneId) (p : Part) : AttnKept p (takeHead l p) :=
  .after (evalFlow_attnKept l _) (.after (.onSorter _ _) (onLane_attnKept l p fun _ => rfl))

theorem fileEffects_attnKept (f : Sorted) (i : Nat) (st : Stream) (e : Epoch) (p : Part) :
    AttnKept p (fileEffects f i st e p) := by
  unfold fileEffects
  exact .after (.onSorter _ _) (.after (sendFiling_attnKept _ _) (.frame rfl rfl rfl))

theorem completeAt_attnKept (l : Label) (p : Part) : AttnKept p (completeAt l p) := .frame rfl rfl rfl

theorem fileInto_attnKept (f : Sorted) (i : Nat) (st : Stream) (l : Label) (p : Part) :
    AttnKept p (fileInto f i st l p) := by
  unfold fileInto
  split
  · exact .refl p
  · have hfiled (e : Epoch) : AttnKept p (completeAt l (fileEffects f i st e p)) :=
      .after (completeAt_attnKept l _) (fileEffects_attnKept f i st e p)
    dsimp only
    split
    · exact .after (carryOut_attnKept _ _) (hfiled _)
    · exact .after (attemptRelease_attnKept _) (hfiled _)

theorem takeEarly_attnKept (f : Sorted) (i : Nat) (st : Stream) (l : Label) (p : Part) :
    AttnKept p (takeEarly f i st l p) := by
  unfold takeEarly
  split
  · have hopened := (makeRoom_attnKept l p).trans (openEntry_attnKept .frame l _)
    exact .after (fileInto_attnKept f i st l _) (.after (.onSorter _ _) hopened)
  · exact .after (returnBuffers_attnKept _ _) (.after (.onSorter _ _) (.onEngine _ p))

theorem takeLate_attnKept (f : Sorted) (i : Nat) (st : Stream) (p : Part) : AttnKept p (takeLate f i st p) := by
  unfold takeLate
  (repeat' split)
  · exact .frame rfl rfl rfl
  · exact .frame (by simp) (by simp) (by simp)
  · exact .after (stragglerOverflow_attnKept _) (.frame rfl rfl rfl)

theorem takeMatched_attnKept (v : Verdict) (f : Sorted) (i : Nat) (st : Stream) (p : Part) :
    AttnKept p (takeMatched v f i st p) := by
  cases v with
  | file => exact fileInto_attnKept f i st _ p
  | early => exact takeEarly_attnKept f i st _ p
  | late => exact takeLate_attnKept f i st p
  | noTime | reinit | malformed | stranger | suspended | retired | layoutMismatch | offGrid | decimated | ahead
  | duplicate | noEpoch => exact .frame rfl rfl rfl

theorem takeUnmatched_attnKept (v : Verdict) (f : Sorted) (p : Part) : AttnKept p (takeUnmatched v f p) := by
  refine .trans (returnBuffers_attnKept [f.buffer] p) ?_
  unfold takeUnmatched
  dsimp only
  split
  · exact sighting_attnKept _ _ _ _
  · exact .refl _

theorem countVerdict_attnKept (v : Verdict) (m : Option (Nat × Stream)) (p : Part) : AttnKept p (countVerdict v m p) :=
  .frame (by simp) (by simp) (by simp)

theorem settle_attnKept (v : Verdict) (m : Option (Nat × Stream)) (f : Sorted) (p : Part) :
    AttnKept p (settle v m f p) := by
  refine .trans (countVerdict_attnKept v m p) ?_
  unfold settle
  dsimp only
  split
  · exact takeUnmatched_attnKept v f _
  · exact takeMatched_attnKept v f _ _ _

theorem sort_attnKept (p : Part) : AttnKept p (sort p) := by
  unfold sort
  (repeat' split)
  · exact .refl p
  · exact .refl p
  · exact .refl p
  · exact .after (settle_attnKept _ _ _ _) (takeHead_attnKept _ p)

/-! ### Requests -/

theorem complete_attnKept (e : RequestEntry) (st : Status) (res : List Byte) (p : Part) :
    AttnKept p (complete e st res p) := .frame (by simp) (by simp) (by simp)

theorem runReadAttention_attnKept (ps : List Byte) (p : Part) : AttnKept p (runReadAttention ps p).part :=
  openGate_attnKept p

theorem runSetMask_attnKept (ps : List Byte) (p : Part) : AttnKept p (runSetMask ps p).part := by
  unfold runSetMask
  split
  · exact .refl p
  · exact .of_evalAttn fun h => h.mono rfl id

theorem runReadTime_attnKept (ps : List Byte) (p : Part) : AttnKept p (runReadTime ps p).part :=
  .after (clearCause_attnKept (by decide) _) (.frame rfl rfl rfl)

theorem runConfigureReference_attnKept (ps : List Byte) (p : Part) : AttnKept p (runConfigureReference ps p).part := by
  unfold runConfigureReference
  (repeat' split)
  · exact .refl p
  · exact configureReference_attnKept _ p
  · exact .refl p

theorem runSelectReference_attnKept (ps : List Byte) (p : Part) : AttnKept p (runSelectReference ps p).part := by
  unfold runSelectReference
  (repeat' split)
  · exact .refl p
  · exact selectReference_attnKept _ p
  · exact .refl p

theorem runRegister_attnKept (ps : List Byte) (p : Part) : AttnKept p (runRegister ps p).part := by
  simp only [runRegister]
  (repeat' split) <;> exact .frame rfl rfl rfl

theorem runAlter_attnKept (ps : List Byte) (p : Part) : AttnKept p (runAlter ps p).part := by
  simp only [runAlter]
  (repeat' split) <;> exact .frame rfl rfl rfl

theorem withdrawIndex_attnKept (i : Nat) (p : Part) : AttnKept p (withdrawIndex i p) := carryOut_attnKept _ p

theorem runSuspend_attnKept (ps : List Byte) (p : Part) : AttnKept p (runSuspend ps p).part := by
  simp only [runSuspend]
  split
  case isTrue => exact .refl p
  case isFalse =>
    split
    case h_1 => exact .refl p
    case h_2 st _ =>
      cases st.state with
      | armed | live | stale => exact .after (withdrawIndex_attnKept _ _) (putMarked_attnKept _ _ p)
      | suspended | retiring => exact .refl p

theorem runResume_attnKept (ps : List Byte) (p : Part) : AttnKept p (runResume ps p).part := by
  simp only [runResume]
  (repeat' split) <;> exact .frame rfl rfl rfl

theorem runRetire_attnKept (ps : List Byte) (p : Part) : AttnKept p (runRetire ps p).part := by
  simp only [runRetire]
  (repeat' split)
  · exact .refl p
  · exact .refl p
  · exact .refl p
  · exact putMarked_attnKept _ none p
  · exact .after (withdrawIndex_attnKept _ _) (.frame rfl rfl rfl)

theorem runReadStream_attnKept (ps : List Byte) (p : Part) : AttnKept p (runReadStream ps p).part := by
  simp only [runReadStream]
  (repeat' split) <;> exact .frame rfl rfl rfl

theorem runReadChanges_attnKept (ps : List Byte) (p : Part) : AttnKept p (runReadChanges ps p).part := by
  have hread : AttnKept p (p.onStreams (StreamTable.clearMarks p.streams.batch)) := .frame rfl rfl rfl
  simp only [runReadChanges, done_part]
  split
  · exact .after (clearCause_attnKept (by decide) _) hread
  · exact hread

theorem runReadStrangers_attnKept (ps : List Byte) (p : Part) : AttnKept p (runReadStrangers ps p).part :=
  .after (clearCause_attnKept (by decide) _) (.frame rfl rfl rfl)

theorem runConfigureAlignment_attnKept (ps : List Byte) (p : Part) : AttnKept p (runConfigureAlignment ps p).part := by
  unfold runConfigureAlignment
  split <;> exact .frame rfl rfl rfl

theorem runFlush_attnKept (ps : List Byte) (p : Part) : AttnKept p (runFlush ps p).part :=
  .after (startRecord_attnKept _) (emptyEntries_attnKept .flush _ (p, ⟨0, 0, 0⟩))

theorem runReadWindow_attnKept (ps : List Byte) (p : Part) : AttnKept p (runReadWindow ps p).part := by
  unfold runReadWindow
  (repeat' split) <;> exact .refl p

theorem runConfigureLane_attnKept (ps : List Byte) (p : Part) : AttnKept p (runConfigureLane ps p).part := by
  unfold runConfigureLane
  (repeat' split)
  · exact configureLane_attnKept _ _ _ _ _ p
  · exact .refl p
  · exact .refl p

/-- READ_LANE empties a delta set, and then clears LANE if that was the last. -/
theorem runReadLane_attnKept (ps : List Byte) (p : Part) : AttnKept p (runReadLane ps p).part := by
  have hread (l : LaneId) : AttnKept p (p.onLane l Lane.read) := by
    refine ⟨id, fun h => ?_⟩
    rintro ⟨k, hk⟩
    refine h ⟨k, ?_⟩
    have hlk : l ≠ k := by
      rintro rfl
      simp [Lane.read] at hk
    rwa [onLane_lane_other _ _ hlk] at hk
  unfold runReadLane
  split
  · exact .refl p
  · exact .after (clearLaneCause_attnKept _) (hread _)

theorem runSetLoopback_attnKept (ps : List Byte) (p : Part) : AttnKept p (runSetLoopback ps p).part := by
  unfold runSetLoopback
  split
  · exact setLoopback_attnKept _ _ p
  · exact .refl p

theorem writeBody_attnKept (n : Option Nat) (body : List Byte) (p : Part) : AttnKept p (writeBody n body p) := by
  cases n <;> exact .frame rfl rfl rfl

theorem inject_attnKept (l : LaneId) (body : List Byte) (p : Part) : AttnKept p (inject l body p).part :=
  .after (endGood_attnKept l _ _ _) (.after (writeBody_attnKept _ body _) (claim_attnKept p))

theorem runInject_attnKept (ps : List Byte) (p : Part) : AttnKept p (runInject ps p).part := by
  unfold runInject
  (repeat' split)
  case h_2.isFalse.isFalse => exact inject_attnKept _ _ p
  all_goals exact .refl p

theorem runReadPool_attnKept (ps : List Byte) (p : Part) : AttnKept p (runReadPool ps p).part :=
  .after (clearCause_attnKept (by decide) _) (.frame rfl rfl rfl)

theorem runSetPoolMark_attnKept (ps : List Byte) (p : Part) : AttnKept p (runSetPoolMark ps p).part := by
  unfold runSetPoolMark
  split
  · exact .refl p
  · exact .after (evalLowMark_attnKept _) (.frame rfl rfl rfl)

theorem runSweep_attnKept (ps : List Byte) (p : Part) : AttnKept p (runSweep ps p).part := by
  unfold runSweep
  split <;> exact .frame rfl rfl rfl

theorem runConfigureEgress_attnKept (ps : List Byte) (p : Part) : AttnKept p (runConfigureEgress ps p).part := by
  unfold runConfigureEgress
  split
  · exact .refl p
  · exact .after (pauseLimitExpiry_attnKept _) (.frame rfl rfl rfl)

theorem runResumeEgress_attnKept (ps : List Byte) (p : Part) : AttnKept p (runResumeEgress ps p).part :=
  .after (startRecord_attnKept _) (.frame rfl rfl rfl)

theorem runReadEgress_attnKept (ps : List Byte) (p : Part) : AttnKept p (runReadEgress ps p).part :=
  clearCause_attnKept (by decide) p

/-! ### ISOLATE and RESET_N -/

theorem resetNAssert_attnKept (p : Part) : AttnKept p (resetNAssert p) := by
  unfold resetNAssert
  split
  · exact .refl p
  · exact ⟨fun _ => attnFollows_of_low rfl, id⟩

/-- While RESET_N is low ATTN keeps its level, and a change of the ISOLATE pin is only recorded (R1). -/
theorem setIsolate_attnKept_of_low {p : Part} (h : p.pins.resetLow = true) (v : Bool) : AttnKept p (p.setIsolate v) :=
  ⟨fun _ => attnFollows_of_low h, id⟩

theorem isolateAsserted_attnKept (p : Part) : AttnKept p (isolateAsserted p) := by
  unfold isolateAsserted
  split
  case isTrue => exact .refl p
  case isFalse =>
    split
    case isTrue hlow => exact setIsolate_attnKept_of_low hlow true
    case isFalse =>
      have hlanes := abandonFrames_attnKept ((p.setIsolate true).onEngine Engine.freeze)
      exact .of_evalAttn fun h => (hlanes.lane (h.mono rfl id)).mono rfl id

theorem isolateRemoved_attnKept (p : Part) : AttnKept p (isolateRemoved p) := by
  unfold isolateRemoved
  split
  case isTrue => exact .refl p
  case isFalse =>
    split
    case isTrue hlow => exact setIsolate_attnKept_of_low hlow false
    case isFalse =>
      have hlevel : AttnKept p (evalAttn ((resumeEngine p).setIsolate false)) :=
        .of_evalAttn (resumeEngine_attnKept p).lane
      have hnotice := hlevel.trans ((openGate_attnKept _).trans (handIfDue_attnKept _))
      have hlinks := hnotice.trans ((attemptRelease_attnKept _).trans (startFlows_attnKept _))
      exact .after (.frame (by simp) (by simp) (by simp)) hlinks

/-! ### The reset events -/

/-- A part whose Attention Unit is at its POWER_ON values and whose lane deltas are empty has both laws, whatever part
it came from. -/
theorem AttnKept.of_cleared {p q : Part} (hattention : q.attention = Attention.initial)
    (hdeltas : ∀ l, (q.lane l).deltas = ⟨false, false, false⟩) : AttnKept p q :=
  ⟨fun _ => attnFollows_of_initial hattention, fun _ => lanePends_of_none hdeltas⟩

theorem map_resetFull_deltas (keepLast keepTx : Bool) (x : Four Lane) (l : LaneId) :
    ((x.map (Lane.resetFull keepLast keepTx)).get l).deltas = ⟨false, false, false⟩ := by
  rw [Four.get_map]
  rfl

theorem powerOn_attnKept (st : Straps) (p : Part) : AttnKept p (powerOn st p) := by
  refine .after (startFlows_attnKept _) (.of_cleared rfl fun l => ?_)
  match l with
  | 0 | 1 | 2 | 3 => rfl

theorem pin_attnKept (st : Straps) (p : Part) : AttnKept p (pin st p) :=
  .after (startFlows_attnKept _) (.of_cleared rfl (map_resetFull_deltas false true p.lanes))

theorem raiseIf_attnKept (b : Bool) (c : Cause) (p : Part) : AttnKept p (raiseIf b c p) := by
  unfold raiseIf
  split
  · exact raiseQuiet_attnKept c p
  · exact .refl p

theorem raiseKept_attnKept (p : Part) : AttnKept p (raiseKept p) :=
  .after (raiseIf_attnKept _ .lane _) (.after (raiseIf_attnKept _ .stranger _)
    (.after (raiseIf_attnKept _ .stream _) (raiseIf_attnKept _ .pool p)))

theorem raiseQuiet_lane_pending (p : Part) : (raiseQuiet .lane p).attention.pending.lane = true := by
  unfold raiseQuiet
  split
  case isTrue h => exact h
  case isFalse => rfl

/-- A restart raises LANE where a lane delta stands, so that the causes it cleared do not matter (R120). -/
theorem raiseKept_lanePends (p : Part) : (raiseKept p).LanePends := by
  by_cases hany : p.anyLaneDelta = true
  case pos =>
    refine lanePends_of_pending ?_
    rw [raiseKept, raiseIf, if_pos hany]
    exact raiseQuiet_lane_pending _
  case neg =>
    intro hdelta
    rw [← anyLaneDelta_iff, Part.anyLaneDelta, raiseKept_lanes] at hdelta
    exact absurd hdelta hany

theorem restartFullEvent_attnKept (p : Part) : AttnKept p (restartFullEvent p) :=
  .after (startFlows_attnKept _)
    (.after (raiseKept_attnKept _) (.of_cleared rfl (map_resetFull_deltas true true p.lanes)))

theorem restartAlignmentEvent_attnKept (p : Part) : AttnKept p (restartAlignmentEvent p) :=
  .after (startFlows_attnKept _)
    ⟨fun _ => (raiseKept_attnKept _).attn (evalAttn_attnFollows _), fun _ => raiseKept_lanePends _⟩

theorem runRestart_attnKept (ps : List Byte) (p : Part) : AttnKept p (runRestart ps p).part := by
  unfold runRestart
  split
  · exact restartFullEvent_attnKept p
  · exact restartAlignmentEvent_attnKept p
  · exact .refl p

/-! ### Every command -/

namespace AttnKept

theorem live {f : Part → Part} (hf : ∀ p, AttnKept p (f p)) (p : Part) : AttnKept p (Part.live f p) :=
  live_keeps (refl p) (hf p)

theorem event {f : Part → Part} {s t : State} (h : State.event f s = .next t) (hf : ∀ p, AttnKept p (f p)) :
    AttnKept s.part t.part := by
  rw [event_next h]
  exact .after (hf _) (reached_attnKept _)

theorem runRequest {f : Part → Part} {s t : State} (h : State.runRequest f s = .next t)
    (hf : ∀ p, AttnKept p (f p)) : AttnKept s.part t.part := by
  rw [runRequest_next h]
  exact .after (hf _) (started_attnKept _)

theorem serve {code : Nat} {run : List Byte → Part → Served} {after : Part → Part}
    (hrun : ∀ ps p, AttnKept p (run ps p).part) (hafter : ∀ p, AttnKept p (after p)) (p : Part) :
    AttnKept p (Machine.serve code run after p) :=
  serve_keeps (P := AttnKept p) (refl p) (fun _ _ _ _ => hrun _ _)
    (fun _ _ _ _ h => h.trans (complete_attnKept _ _ _ _)) (fun _ h => h.trans (hafter _))

theorem request {code : Nat} {run : List Byte → Part → Served} {s t : State}
    (h : State.runRequest (Machine.request code run) s = .next t) (hrun : ∀ ps p, AttnKept p (run ps p).part) :
    AttnKept s.part t.part :=
  runRequest h (live (serve hrun refl))

end AttnKept

theorem unknownRequest_attnKept (p : Part) : AttnKept p (unknownRequest p) := by
  unfold unknownRequest
  (repeat' split)
  · exact .refl p
  · exact complete_attnKept _ _ _ p
  · exact .refl p

theorem configureAlignment_attnKept (p : Part) : AttnKept p (configureAlignment p) := by
  unfold configureAlignment
  split
  · exact beginRealign_attnKept _ p
  · exact .serve runConfigureAlignment_attnKept .refl p

theorem restartRow_attnKept (other : Nat) (p : Part) : AttnKept p (restartRow other p) := by
  unfold restartRow
  split
  · exact .refl p
  · exact .serve runRestart_attnKept handIfDue_attnKept p

theorem restart_attnKept {other : Nat} {s t : State}
    (h : State.event (fun p => Part.live (restartRow other) p.started) s = .next t) : AttnKept s.part t.part :=
  .event h fun p => .after (.live (restartRow_attnKept other) _) (started_attnKept p)

theorem exec_attnKept {c : Instr} {s t : State} (h : exec c s = .next t) : AttnKept s.part t.part := by
  cases c with
  | powerOn straps =>
    cases h
    exact powerOn_attnKept straps s.part
  | pin straps =>
    cases h
    exact pin_attnKept straps s.part
  | resetNAssert => exact .event h resetNAssert_attnKept
  | isolateAsserted => exact .event h isolateAsserted_attnKept
  | isolateRemoved => exact .event h isolateRemoved_attnKept
  | carrierChange l high => exact .event h (carrierChange_attnKept l high)
  | flowFrameEnd l => exact .event h (flowFrameEnd_attnKept l)
  | messageEnd => exact .event h fun _ => .frame (by simp) (by simp) (by simp)
  | timeMessage | timeMessageError | tmsgByte | tmsgGapExpiry | slewEnd | pause | resume | returnEnvelopeError
  | returnLinkByte | returnGapExpiry | requestArrival | controlEnvelopeError | controlLinkByte | controlGapExpiry =>
    exact .event h (.live fun _ => .frame (by simp) (by simp) (by simp))
  | pulse r => exact .event h (.live (pulse_attnKept r))
  | missingPulseExpiry r => exact .event h (.live (missingPulse_attnKept r))
  | silenceExpiry r => exact .event h (.live (silence_attnKept r))
  | holdoverSecond => exact .event h (.live holdoverSecond_attnKept)
  | strobe => exact .event h (.live strobe_attnKept)
  | deadlineExpiry l => exact .event h (.live (deadlineExpiry_attnKept l))
  | sort => exact .event h (.live sort_attnKept)
  | laneHeader l b | laneFrameEnd l b | laneByte l b => exact .event h (.live (laneByte_attnKept l b))
  | laneGapExpiry l => exact .event h (.live (laneGap_attnKept l))
  | sweepVerdict pass => exact .event h (.live (sweepVerdict_attnKept pass))
  | recordEnd => exact .event h (.live recordEnd_attnKept)
  | pauseLimitExpiry => exact .event h (.live pauseLimitExpiry_attnKept)
  | realignmentComplete => exact .event h (.live realignmentComplete_attnKept)
  | restartFull => exact restart_attnKept (other := 1) h
  | restartAlignment => exact restart_attnKept (other := 0) h
  | unknownRequest => exact .runRequest h (.live unknownRequest_attnKept)
  | configureAlignment => exact .runRequest h (.live configureAlignment_attnKept)
  | readAttention => exact .runRequest h (.live (.serve runReadAttention_attnKept handIfDue_attnKept))
  | setAttentionMask => exact .runRequest h (.live (.serve runSetMask_attnKept handIfDue_attnKept))
  | sweepStore => exact .runRequest h (.live (.serve runSweep_attnKept sweepOn_attnKept))
  | identify | readSorter | holdEgress => exact .request h fun _ _ => .frame rfl rfl rfl
  | readTime => exact .request h runReadTime_attnKept
  | configureReference => exact .request h runConfigureReference_attnKept
  | selectReference => exact .request h runSelectReference_attnKept
  | registerStream => exact .request h runRegister_attnKept
  | alterStream => exact .request h runAlter_attnKept
  | suspendStream => exact .request h runSuspend_attnKept
  | resumeStream => exact .request h runResume_attnKept
  | retireStream => exact .request h runRetire_attnKept
  | readStream => exact .request h runReadStream_attnKept
  | readChanges => exact .request h runReadChanges_attnKept
  | readStrangers => exact .request h runReadStrangers_attnKept
  | flushWindow => exact .request h runFlush_attnKept
  | readWindow => exact .request h runReadWindow_attnKept
  | configureLane => exact .request h runConfigureLane_attnKept
  | readLane => exact .request h runReadLane_attnKept
  | setLoopback => exact .request h runSetLoopback_attnKept
  | injectFrame => exact .request h runInject_attnKept
  | readPool => exact .request h runReadPool_attnKept
  | setPoolMark => exact .request h runSetPoolMark_attnKept
  | configureEgress => exact .request h runConfigureEgress_attnKept
  | resumeEgress => exact .request h runResumeEgress_attnKept
  | readEgress => exact .request h runReadEgress_attnKept

theorem elapse_attnKept (p : Part) : AttnKept p (elapse p) :=
  .frame (by simp [elapse]) (by simp [elapse]) (by simp [elapse])

theorem idle_attnKept {s t : State} (h : idle s = .next t) : AttnKept s.part t.part := by
  unfold idle at h
  split at h
  · exact exec_attnKept h
  · cases h
    exact .after (elapse_attnKept _) (.after (started_attnKept _) (reached_attnKept _))

theorem step_attnKept {s t : State} (h : step s = .next t) : AttnKept s.part t.part := by
  unfold step at h
  split at h
  case h_1 =>
    have hkept := exec_attnKept h
    exact hkept
  case h_2 => exact idle_attnKept h

end Sys2Proof.Machine

open Sys2Proof Sys2Proof.Machine

/-- Settles O53: each step keeps both laws, whatever command it takes. -/
theorem attnFollowsCauses : Obligations.AttnFollowsCauses := fun _ _ h =>
  ⟨(step_attnKept h).attn, (step_attnKept h).lane⟩

end
